-- ==== Sys2Proof/Word.lean ====
section
/-! DEFINITION. The word types of the engine: the bytes of the expander and of the controller commands, the request
word and the glyph payload (spec 00_scope.md R9, 30_encoding.md R66). Every value is unsigned. -/

namespace Sys2Proof

/-- An 8-bit value: an expander byte, a command byte, a data byte, a mirror register (R9, R66). -/
abbrev Byte := BitVec 8

/-- The 24-bit host request word (R71). -/
abbrev ReqWord := BitVec 24

/-- The 64-bit glyph payload that goes with a request word (R72). -/
abbrev Glyph := BitVec 64

/-- A minimum time in microseconds, a natural number (R7, 92 D7). -/
abbrev Micros := Nat

end Sys2Proof
end

