-- ==== Sys2Proof/Config.lean ====
section
/-! DEFINITION. The implementation parameters (spec 00_scope.md R6) and the model's one free value. The parameters are
fixed for the life of an instance; `State.cfg` carries them as a constant, so that a statement about every state is a
statement about every configuration (log entry 1). -/

namespace Sys2Proof

/-- The requested dot format (R6). -/
inductive Dots where
  | d5x8
  | d5x10
  deriving DecidableEq, Repr

/-- The parameters of one engine instance (R6). -/
structure Config where
  /-- `ADDR7`, the I2C address of the expander. -/
  addr7 : BitVec 7
  /-- `COLS`, the column count: any 8-bit value (92 D15). -/
  cols : Byte
  /-- `ROWS`, the row count: 1..4 is legal, anything else is refused (R185). -/
  rows : Byte
  /-- `DOTS`, the requested dot format. -/
  dots : Dots
  /-- `BL_RESET`, the backlight register after reset: OPEN (92 D11). -/
  blReset : Bool
  /-- `LAST_RESET`, the expander latch after power-on: a draw (92 D11). -/
  lastReset : Byte
  deriving DecidableEq, Repr

/-- DESIGN CHOICE (log entries 1 and 2): the configuration the spec's test vectors use (95_test_vectors.md,
Conventions), taken by `State.reset`; the spec fixes no configuration. -/
def Config.vectors : Config :=
  { addr7 := 0x27, cols := 16, rows := 2, dots := .d5x8, blReset := true, lastReset := 0x00 }

/-- FREE VALUE (log entry 12): the level of the controller's pins after the n-th transfer that was not acknowledged or
never completed. R41: "A model must treat the pins after a failed transfer as unknown". Nothing constrains it. -/
opaque Config.freePins : Nat → Byte

end Sys2Proof
end

