-- ==== Sys2Proof/Machine/Types.lean ====
section
/-! DEFINITION. The data the machine's state is made of: states of the InitSequencer, mirror registers,
micro-operations, bus events, records, and what the host and the environment give the engine. -/

namespace Sys2Proof.Machine

/-- The InitSequencer states, "linear, no branching back" (10_state.md R21). -/
inductive Phase where
  | poweredUnknown
  | expanderReset
  | modeRequested1
  | modeRequested2
  | modeRequested3
  | fourBitLocked
  | functionSet
  | displayOn
  | cleared
  | entryModeSet
  | homed
  | ready
  deriving DecidableEq, Repr

/-- A mirror register: a flag byte, or `UNSET`, which the spec gives as a value of its own: "`UNSET` means the register
holds no value; reading it faults" (R13, R16, R17). -/
inductive Mirror where
  | unset
  | value (v : Byte)
  deriving DecidableEq, Repr

/-- The two mirror registers a toggle can modify (R144). -/
inductive MirrorReg where
  | ctl
  | ems
  deriving DecidableEq, Repr

/-- A toggle's operation: set or clear the mask (R144). -/
inductive ToggleOp where
  | set
  | clear
  deriving DecidableEq, Repr

/-- The RowOffsetTable `ROWOFF[0..3]` (R27). -/
structure RowOffsets where
  row0 : Byte
  row1 : Byte
  row2 : Byte
  row3 : Byte
  deriving DecidableEq, Repr

/-- The mode tag of a byte: command or data (30_encoding.md R68). -/
inductive Mode where
  | cmd
  | data
  deriving DecidableEq, Repr

/-- A SETREG micro-operation's register with its new value, of that register's width (40_bus_strobe.md R93). -/
inductive RegWrite where
  | ctl (v : Byte)
  | ems (v : Byte)
  | bl (v : Bool)
  | oled (v : Bool)
  deriving DecidableEq, Repr

/-- The micro-operations (R93). -/
inductive MicroOp where
  | enter (p : Phase)
  | setReg (w : RegWrite)
  | sync (f : Bool)
  | busInit
  | xfer (v : Byte)
  | wait (t : Micros)
  | done (r : Byte)
  deriving DecidableEq, Repr

/-- An event of the bus event trace (20_memory.md R37). -/
inductive BusEvent where
  | xfer (addr : BitVec 7) (b : Byte)
  | wait (t : Micros)
  | busInit
  deriving DecidableEq, Repr

/-- The two external collaborators a micro-operation can wait for (R187). -/
inductive Device where
  | transport
  | timer
  deriving DecidableEq, Repr

/-- What a collaborator answers to one micro-operation: it completes and acknowledges, it completes without an
acknowledge (R41), or it never completes (R187). -/
inductive Draw where
  | ack
  | nak
  | hang
  deriving DecidableEq, Repr

/-- What the environment does at one step (92 D2): the engine reset (R190), a controller reset (R189), or nothing but
its answer to the engine's step. -/
inductive EnvEvent where
  | rst
  | ctrlReset
  | answer (d : Draw)
  deriving DecidableEq, Repr

/-- A request as the host presents it: `req_word` and `req_glyph` (R70). -/
structure Request where
  word : ReqWord
  glyph : Glyph
  deriving DecidableEq, Repr

/-- A latched nibble (R61), with its RS, and the SYNC bit and PHASE at the moment it was latched (R63, R64). -/
structure Latch where
  nibble : BitVec 4
  rs : Bool
  sync : Bool
  phase : Phase
  deriving DecidableEq, Repr

/-- The one fault reason of the spec (R182). -/
inductive FaultReason where
  | mirrorUnset
  deriving DecidableEq, Repr

/-- What a fault records: "the pair `(reason, request word)`" (R181). -/
structure FaultRecord where
  reason : FaultReason
  word : ReqWord
  deriving DecidableEq, Repr

/-- The refusal reasons of the spec (R184, R185). -/
inductive RefusalReason where
  | reservedEncoding
  | badConfig
  deriving DecidableEq, Repr

/-- What a refusal records: "the reason and, for a request, the request word" (R183). -/
structure RefusalRecord where
  reason : RefusalReason
  word : Option ReqWord
  deriving DecidableEq, Repr

end Sys2Proof.Machine
end

