-- ==== Sys2Proof/Machine/Constants.lean ====
section
/-! DEFINITION. The constants: timing minima (00_scope.md R7), control bits of the expander byte (30_encoding.md R67),
mode tags (R68), command bases and flags (R76 to R84), state codes (10_state.md R21).

The control-bit positions and the command values are the spec's decisions, taken by it from general knowledge (92 D6,
93 G1 to G3); log entry 15. -/

namespace Sys2Proof.Machine

/-- `T_EN`, Enable high hold (R7). -/
def tEn : Micros := 1
/-- `T_SETTLE`, settle after Enable falls (R7). -/
def tSettle : Micros := 42
/-- `T_POWER`, after bus initialisation (R7). -/
def tPower : Micros := 50000
/-- `T_EXPRST`, after the expander reset byte (R7). -/
def tExpRst : Micros := 500000
/-- `T_MODE1`, after the first 0x30 strobe (R7). -/
def tMode1 : Micros := 4200
/-- `T_MODE2`, after the second 0x30 strobe (R7). -/
def tMode2 : Micros := 110
/-- `T_CLEAR`, after the clear-display command (R7). -/
def tClear : Micros := 2000
/-- `T_HOME`, after the return-home command (R7). -/
def tHome : Micros := 2000

/-- `EN_MASK` (R11, R67). -/
def enMask : Byte := 0x04
/-- `RW_MASK` (R11, R67). -/
def rwMask : Byte := 0x02
/-- `RS_MASK` (R11, R67). -/
def rsMask : Byte := 0x01
/-- `BL_MASK` (R11, R67). -/
def blMask : Byte := 0x08

/-- `MODE_CMD` and `MODE_DATA` (R68): the tag is the register-select value, in bit 0. -/
def Mode.tag : Mode → Byte
  | .cmd => 0x00
  | .data => 0x01

/-- CLEAR_DISPLAY (R77). -/
def cmdClearDisplay : Byte := 0x01
/-- RETURN_HOME (R78). -/
def cmdReturnHome : Byte := 0x02
/-- ENTRY_MODE_SET (R79). -/
def cmdEntryModeSet : Byte := 0x04
/-- DISPLAY_CONTROL (R80). -/
def cmdDisplayControl : Byte := 0x08
/-- CURSOR_SHIFT (R81). -/
def cmdCursorShift : Byte := 0x10
/-- FUNCTION_SET (R82). -/
def cmdFunctionSet : Byte := 0x20
/-- SET_CGRAM_ADDR (R83). -/
def cmdSetCgramAddr : Byte := 0x40
/-- SET_DDRAM_ADDR (R84). -/
def cmdSetDdramAddr : Byte := 0x80

/-- ENTRY_LEFT, the I/D bit (R79). -/
def flagEntryLeft : Byte := 0x02
/-- ENTRY_SHIFT_INCREMENT, the S bit (R79). -/
def flagEntryShift : Byte := 0x01
/-- DISPLAY_ON, the D bit (R80). -/
def flagDisplay : Byte := 0x04
/-- CURSOR_ON, the C bit (R80). -/
def flagCursor : Byte := 0x02
/-- BLINK_ON, the B bit (R80). -/
def flagBlink : Byte := 0x01
/-- DISPLAY_MOVE, the SC bit (R81). -/
def flagDisplayMove : Byte := 0x08
/-- MOVE_RIGHT, the RL bit (R81). -/
def flagMoveRight : Byte := 0x04
/-- MOVE_LEFT, the RL bit clear (R81). -/
def flagMoveLeft : Byte := 0x00
/-- 2LINE, the N bit (R82). -/
def flagTwoLine : Byte := 0x08
/-- 5x10DOTS, the F bit (R82). -/
def flagTallFont : Byte := 0x04

/-- The 4-bit code of a state (R21). -/
def Phase.code : Phase → BitVec 4
  | .poweredUnknown => 0
  | .expanderReset => 1
  | .modeRequested1 => 2
  | .modeRequested2 => 3
  | .modeRequested3 => 4
  | .fourBitLocked => 5
  | .functionSet => 6
  | .displayOn => 7
  | .cleared => 8
  | .entryModeSet => 9
  | .homed => 10
  | .ready => 11

end Sys2Proof.Machine
end

