-- ==== Sys2Proof/Machine/Flags.lean ====
section
/-! DEFINITION. The flag computations: the function-set flags from the configuration (00_scope.md R8), a toggle's new
mirror value (43_mirror_toggles.md R144), and the control bits of an expander byte (30_encoding.md R67). -/

namespace Sys2Proof.Machine

/-- `FN_INIT` (R8): two lines when ROWS > 1; the tall font only when 5x10 is asked for and ROWS = 1 (90 C3). -/
def fnInit (c : Config) : Byte :=
  (if 1 < c.rows then flagTwoLine else 0) ||| (if c.dots = .d5x10 ∧ c.rows = 1 then flagTallFont else 0)

/-- A toggle's new value: `v = x[R] | M` or `v = x[R] & ~M`, in 8 bits (R144). -/
def toggled (op : ToggleOp) (mask x : Byte) : Byte :=
  match op with
  | .set => x ||| mask
  | .clear => x &&& ~~~mask

/-- The command base of a mirror register (R144). -/
def MirrorReg.base : MirrorReg → Byte
  | .ctl => cmdDisplayControl
  | .ems => cmdEntryModeSet

/-- The bits a mirror register uses: `CTL` bits 2:0, `EMS` bits 1:0 (10_state.md R13). -/
def MirrorReg.used : MirrorReg → Byte
  | .ctl => 0x07
  | .ems => 0x03

/-- The backlight bits of a transfer: `x[BL] == 1 ? BL_MASK : 0x00` (20_memory.md R38). -/
def blBits (bl : Bool) : Byte := if bl then blMask else 0x00

/-- Enable, bit 2 of an expander byte (R67). -/
def pinE (b : Byte) : Bool := b &&& enMask != 0
/-- Read/write, bit 1 (R67). -/
def pinRw (b : Byte) : Bool := b &&& rwMask != 0
/-- Register select, bit 0 (R67). -/
def pinRs (b : Byte) : Bool := b &&& rsMask != 0
/-- Backlight, bit 3 (R67). -/
def pinBl (b : Byte) : Bool := b &&& blMask != 0
/-- The data lines D7..D4, bits 7:4 (R67). -/
def pinData (b : Byte) : BitVec 4 := b.extractLsb' 4 4

end Sys2Proof.Machine
end

