-- ==== Sys2Proof/Machine/Operands.lean ====
section
/-! DEFINITION. The operand forms: nibble bytes (30_encoding.md R69), the row offsets and the cursor address
(00_scope.md R8, 44_addressing.md R163), the CGRAM slot (R166), glyph rows (30_encoding.md R72) and the OLED flag
(R169). Everything is unsigned 8-bit arithmetic (R9, 92 D15). -/

namespace Sys2Proof.Machine

/-- `hi(b, m)`: b[7:4] in bits 7:4, the mode tag in bit 0 (R69). -/
def hiNibble (b : Byte) (m : Mode) : Byte := (b &&& 0xF0) ||| m.tag

/-- `lo(b, m)`: b[3:0] in bits 7:4, the mode tag in bit 0; the shift is truncated to 8 bits (R69, R123). -/
def loNibble (b : Byte) (m : Mode) : Byte := ((b <<< 4) &&& 0xF0) ||| m.tag

/-- A legal configuration: ROWS in 1..4 (00_scope.md R6, 60_exceptions.md R185). -/
def configLegal (c : Config) : Bool := decide (1 ≤ c.rows) && decide (c.rows ≤ 4)

/-- `ROWS_EFF = min(ROWS, 4)` (R8). -/
def rowsEff (c : Config) : Byte := if c.rows ≤ 4 then c.rows else 4

/-- The RowOffsetTable of a configuration, each entry modulo 256 (R8). -/
def rowOffsets (c : Config) : RowOffsets :=
  { row0 := 0x00, row1 := 0x40, row2 := 0x00 + c.cols, row3 := 0x40 + c.cols }

/-- `ROWOFF[r]`. The index is clamped before (R27, R163), so that only 0..3 is ever read. -/
def RowOffsets.entry (t : RowOffsets) (r : Byte) : Byte :=
  match r.toNat with
  | 0 => t.row0
  | 1 => t.row1
  | 2 => t.row2
  | _ => t.row3

/-- The clamped row: `(row > ROWS_EFF - 1) ? ROWS_EFF - 1 : row` (R163). -/
def clampRow (c : Config) (row : Byte) : Byte := if rowsEff c - 1 < row then rowsEff c - 1 else row

/-- The SET_DDRAM_ADDR byte of a column and a row: `0x80 | ((ROWOFF[r] + col) mod 128)` (R163). -/
def cursorCommand (c : Config) (t : RowOffsets) (col row : Byte) : Byte :=
  cmdSetDdramAddr ||| ((t.entry (clampRow c row) + col) &&& 0x7F)

/-- The SET_CGRAM_ADDR byte of a slot: the slot masked to three bits, `0x40 | (s << 3)` (R166). -/
def cgramCommand (slot : Byte) : Byte := cmdSetCgramAddr ||| ((slot &&& 0x07) <<< 3)

/-- Glyph row `i`: `req_glyph[8i+7 : 8i]` (R72). -/
def glyphRow (g : Glyph) (i : Nat) : Byte := g.extractLsb' (8 * i) 8

/-- The OLED flag of SET_OLED: `A[0]` (R169). -/
def oledFlag (a : Byte) : Bool := a.getLsbD 0

end Sys2Proof.Machine
end

