-- ==== Sys2Proof/Machine/Macros.lean ====
section
/-! DEFINITION. The macros of a micro-program, fully expanded (40_bus_strobe.md R102): STROBE, the NibbleStrobe pulse
generator (R110), and SEND, the ByteTransmitter's byte-to-nibble sequencer (41_byte_transfer.md R118). -/

namespace Sys2Proof.Machine

/-- STROBE(n): low-E data first, then E high, the hold, then E low, the settle (R110, R116). -/
def strobe (n : Byte) : List MicroOp :=
  [.xfer n, .xfer (n ||| enMask), .wait tEn, .xfer (n &&& ~~~enMask), .wait tSettle]

/-- SEND(b, m): the high nibble first (R118, R121). -/
def send (b : Byte) (m : Mode) : List MicroOp := strobe (hiNibble b m) ++ strobe (loNibble b m)

/-- CLEAR without its DONE (44_addressing.md R161), also the Cleared state of INIT (42_init.md R137): the wait comes
before the OLED variant's return to (0,0), whose byte is the cursor command of column 0, row 0 (R138). -/
def clearOps (oled : Bool) (reposition : Byte) : List MicroOp :=
  send cmdClearDisplay .cmd ++ [.wait tClear] ++ (if oled then send reposition .cmd else [])

/-- HOME without its DONE (R162), also the Homed state of INIT (R141). -/
def homeOps : List MicroOp := send cmdReturnHome .cmd ++ [.wait tHome]

/-- The SETREG that writes a mirror register (R144). -/
def MirrorReg.write (r : MirrorReg) (v : Byte) : RegWrite :=
  match r with
  | .ctl => .ctl v
  | .ems => .ems v

/-- A toggle's micro-program for the new value `v` of its register (43_mirror_toggles.md R144). -/
def toggleOps (r : MirrorReg) (v : Byte) : List MicroOp :=
  [.setReg (r.write v)] ++ send (r.base ||| v) .cmd ++ [.done 0]

/-- The glyph rows 0 to 7, each a full data byte (44_addressing.md R167). -/
def glyphOps (g : Glyph) : List MicroOp :=
  (List.range 8).flatMap fun i => send (glyphRow g i) .data

/-- The handshake of INIT up to the 4-bit lock: states 0 to 5 (42_init.md R127 to R134). -/
def handshakeOps : List MicroOp :=
  [.enter .poweredUnknown, .sync false, .busInit, .wait tPower] ++
  [.enter .expanderReset, .xfer 0x00, .wait tExpRst] ++
  [.enter .modeRequested1] ++ strobe 0x30 ++ [.wait tMode1] ++
  [.enter .modeRequested2] ++ strobe 0x30 ++ [.wait tMode2] ++
  [.enter .modeRequested3] ++ strobe 0x30 ++
  [.enter .fourBitLocked] ++ strobe 0x20 ++ [.sync true]

/-- The rest of INIT: states 6 to 11 (R135 to R142). -/
def setupOps (fn : Byte) (oled : Bool) (reposition : Byte) : List MicroOp :=
  [.enter .functionSet] ++ send (cmdFunctionSet ||| fn) .cmd ++
  [.enter .displayOn, .setReg (.ctl flagDisplay)] ++ send (cmdDisplayControl ||| flagDisplay) .cmd ++
  [.enter .cleared] ++ clearOps oled reposition ++
  [.enter .entryModeSet, .setReg (.ems flagEntryLeft)] ++ send (cmdEntryModeSet ||| flagEntryLeft) .cmd ++
  [.enter .homed] ++ homeOps ++
  [.enter .ready, .done 0]

/-- INIT's micro-program (R125). -/
def initOps (fn : Byte) (oled : Bool) (reposition : Byte) : List MicroOp :=
  handshakeOps ++ setupOps fn oled reposition

end Sys2Proof.Machine
end

