-- ==== Sys2Proof/Machine/State.lean ====
section
/-! DEFINITION. The machine's state as plain data, its reasons to stop, and the state after reset.

The first block of fields is the register table of 10_state.md R13, whole; then the observable trace and the records
that other rules name; then the configuration; then the model's own fields: what the host and the environment will give
the engine, and the ghosts of the bus view. -/

namespace Sys2Proof.Machine

/-- The state of one engine with its host, its environment and its trace. -/
structure State where
  /-- `FN`, the function-set mirror (R15). -/
  fn : Byte
  /-- `CTL`, the display-control mirror, or UNSET (R16). -/
  ctl : Mirror
  /-- `EMS`, the entry-mode mirror, or UNSET (R17). -/
  ems : Mirror
  /-- `BL`, 1 = on (R19). -/
  bl : Bool
  /-- `OLED`, the OLED-variant flag (R20). -/
  oled : Bool
  /-- `PHASE`, the InitSequencer state (R21). -/
  phase : Phase
  /-- `BUSY`, 1 while a micro-program runs (R23). -/
  busy : Bool
  /-- `PROG`, the current micro-program (R24). -/
  prog : List MicroOp
  /-- `UPC`, the micro-program counter (R24). -/
  upc : BitVec 7
  /-- `RSP`, the response of the last completed request (R26). -/
  rsp : Byte
  /-- `ROWOFF[0..3]` (R27). -/
  rowoff : RowOffsets
  /-- `SYNC`, ghost: the controller is known to be aligned (R29). -/
  sync : Bool
  /-- `LAST`, the expander's output latch (R30). -/
  last : Byte
  /-- `FAULTED`, sticky (R31). -/
  faulted : Bool
  /-- `REFUSED`, sticky (R31). -/
  refused : Bool
  /-- `TR`, the bus event trace, oldest first (R37). -/
  tr : List BusEvent
  /-- What the fault recorded (R181). -/
  faultRec : Option FaultRecord
  /-- What the refusals recorded, oldest first (R183; log entry 18). -/
  refusals : List RefusalRecord
  /-- `rsp_done`, "a one-event pulse at μDONE" (R70; log entry 17). -/
  rspDone : Bool
  /-- The parameters of the instance, which nothing changes (R6, R28; log entry 1). -/
  cfg : Config
  /-- MODEL'S OWN: the collaborator that never completed, if any (R187; log entry 13). -/
  stuck : Option Device
  /-- MODEL'S OWN: the requests the host presents, first first (R70; log entry 3). -/
  host : List Request
  /-- MODEL'S OWN: the environment's events and answers, one a step; when none is listed, every transfer, bus
  initialisation and wait completes and is acknowledged (R33; log entry 4). -/
  env : List EnvEvent
  /-- MODEL'S OWN, ghost: the level on the controller's pins (R41, R61; log entry 12). -/
  pins : Byte
  /-- MODEL'S OWN, ghost: the nibbles latched so far, oldest first (R61; log entry 14). -/
  latches : List Latch
  /-- MODEL'S OWN: how many free pin levels have been drawn (R41; log entry 12). -/
  freeCount : Nat
  deriving DecidableEq, Repr

/-- Why a step stops. -/
inductive Fault where
  /-- Raised by a step, or by the acceptance of a request, of an engine whose FAULTED bit is set: "no request is accepted
  afterwards and the engine takes no further step" (R181). SAFE: the machine has stopped. -/
  | engineFaulted
  /-- Raised by a step while a transfer or a bus initialisation has not completed and never will: a stuck state (R187).
  SAFE: only `rst` ends it. -/
  | transportStuck
  /-- Raised by a step while a wait has not completed and never will: a stuck state (R187). SAFE: only `rst` ends it. -/
  | timerStuck
  /-- Raised by a step with BUSY = 1 and UPC outside PROG. R25: "`UPC < length(PROG) ≤ 127` holds at every step", so no
  run reaches it (log entry 20). SAFE. -/
  | upcOutsideProgram
  deriving DecidableEq, Repr

/-- Why a step is refused. -/
inductive Refusal where
  /-- Raised by `exec` for an instruction that has no meaning yet. SAFE. -/
  | notModelled (mnemonic : String)
  /-- Raised by every engine step and every acceptance of an instance whose ROWS is outside 1..4: "No request of such an
  instance is ever accepted" (R185; log entry 9). SAFE. -/
  | badConfig
  deriving DecidableEq, Repr

/-- An instance right after its construction and power-on with configuration `c` (R34, R200). An illegal configuration is
refused at construction: REFUSED is set and the reason recorded (R183, R185). -/
def State.powerOn (c : Config) : State :=
  { fn := fnInit c
    ctl := .unset
    ems := .unset
    bl := c.blReset
    oled := false
    phase := .poweredUnknown
    busy := false
    prog := []
    upc := 0
    rsp := 0
    rowoff := rowOffsets c
    sync := false
    last := c.lastReset
    faulted := false
    refused := !configLegal c
    tr := []
    faultRec := none
    refusals := if configLegal c then [] else [⟨.badConfig, none⟩]
    rspDone := false
    cfg := c
    stuck := none
    host := []
    env := []
    pins := c.lastReset
    latches := []
    freeCount := 0 }

/-- The machine right after reset (R34), with the configuration of the spec's test vectors (log entries 1 and 2). -/
def State.reset : State := State.powerOn Config.vectors

end Sys2Proof.Machine
end

