-- ==== Sys2Proof/Machine/Ops.lean ====
section
/-! DEFINITION. The named operations on the state: the expander write, the micro-operations (40_bus_strobe.md R93 to
R100), acceptance (R101), taking a fault and a refusal (60_exceptions.md R181, R183), the two resets (R189, R190). There
is no trap entry and no return from exception to model: "There is no trap entry" (R193), "There is no trap return"
(R194). -/

namespace Sys2Proof.Machine

/-- `emit E`: append an event to the trace (20_memory.md R37). -/
def State.emit (s : State) (e : BusEvent) : State := { s with tr := s.tr ++ [e] }

/-- `pc <- UPC + 1` (10_state.md R25). -/
def State.advance (s : State) : State := { s with upc := s.upc + 1 }

/-- The read of a mirror register. -/
def State.mirror (s : State) : MirrorReg → Mirror
  | .ctl => s.ctl
  | .ems => s.ems

/-- SETREG(r, v): `x[r] <- v`, and nothing else (R95). -/
def State.setReg (s : State) : RegWrite → State
  | .ctl v => { s with ctl := .value v }
  | .ems v => { s with ems := .value v }
  | .bl v => { s with bl := v }
  | .oled v => { s with oled := v }

/-- The level the pins take when byte `b` is transferred: `b` when the transfer is acknowledged, unknown when it is not or
never completes (R41). -/
def State.pinsAfter (s : State) (d : Draw) (b : Byte) : Byte :=
  match d with
  | .ack => b
  | .nak => Config.freePins s.freeCount
  | .hang => Config.freePins s.freeCount

/-- What the pins latch when they change to level `p`: a nibble when E changes from 1 to 0, namely bits 7:4 of the byte
that drops E, with RS its bit 0 (R61). -/
def State.edge (s : State) (p : Byte) : List Latch :=
  if pinE s.pins && !pinE p then [⟨pinData p, pinRs p, s.sync, s.phase⟩] else []

/-- The ghosts of the bus view after byte `b` was transferred (R41, R61; log entry 12). -/
def State.drivePins (s : State) (d : Draw) (b : Byte) : State :=
  { s with
    pins := s.pinsAfter d b
    latches := s.latches ++ s.edge (s.pinsAfter d b)
    freeCount := match d with
      | .ack => s.freeCount
      | .nak => s.freeCount + 1
      | .hang => s.freeCount + 1 }

/-- The byte an expander write of `v` puts on the bus (R38): the single point where the backlight bit is combined
(R39). -/
def State.busByte (s : State) (v : Byte) : Byte := v ||| blBits s.bl

/-- `MemWrite(EXP, 1, b)`, the one expander write: the event, the latch LAST, the pins (R38, R98). -/
def State.writeExpander (s : State) (d : Draw) (v : Byte) : State :=
  { (s.drivePins d (s.busByte v)).emit (.xfer s.cfg.addr7 (s.busByte v)) with last := s.busByte v }

/-- The end of a micro-operation that waits for a collaborator: with its answer the counter advances, whatever the
acknowledge (R41, R188); without one the engine is stuck (R42, R187). -/
def State.await (s : State) (d : Draw) (dev : Device) : State :=
  match d with
  | .ack => s.advance
  | .nak => s.advance
  | .hang => { s with stuck := some dev }

/-- DONE(r): `RSP <- r; BUSY <- 0; PROG <- empty; pc <- 0`, and the completion pulse (R100). -/
def State.finish (s : State) (r : Byte) : State :=
  { s with rsp := r, busy := false, prog := [], upc := 0, rspDone := true }

/-- The completion pulse lasts one event (30_encoding.md R70). -/
def State.clearPulse (s : State) : State := { s with rspDone := false }

/-- One micro-operation (R93 to R100). "Micro-operations never fault while they run" (R114). -/
def State.perform (s : State) (d : Draw) : MicroOp → State
  | .enter p => { s.clearPulse with phase := p }.advance
  | .setReg w => (s.clearPulse.setReg w).advance
  | .sync f => { s.clearPulse with sync := f }.advance
  | .busInit => (s.clearPulse.emit .busInit).await d .transport
  | .xfer v => (s.clearPulse.writeExpander d v).await d .transport
  | .wait t => (s.clearPulse.emit (.wait t)).await d .timer
  | .done r => s.finish r

/-- Taking a fault: `FAULTED <- 1` and the pair of reason and request word recorded (R181). -/
def State.raiseFault (s : State) (reason : FaultReason) (word : ReqWord) : State :=
  { s with faulted := true, faultRec := some ⟨reason, word⟩ }

/-- Taking a refusal: `REFUSED <- 1` and the reason with the request word recorded; "It performs no event and changes no
other register" (R183). -/
def State.refuse (s : State) (reason : RefusalReason) (word : Option ReqWord) : State :=
  { s with refused := true, refusals := s.refusals ++ [⟨reason, word⟩] }

/-- `PROG <- P; pc <- 0; BUSY <- 1` (R101). -/
def State.load (s : State) (p : List MicroOp) : State := { s with prog := p, upc := 0, busy := true }

/-- When a request is accepted: "only when `BUSY = 0`, the state is not faulted, and the instance was not refused at
construction" (R186). While BUSY = 1 the host is held and the request waits: nothing changes (log entry 6). -/
def whenReady (s : State) (k : State → State) : Host.Outcome State Fault Refusal :=
  if configLegal s.cfg = false then .refused .badConfig
  else if s.faulted then .fault .engineFaulted
  else if s.busy then .next s
  else .next (k s)

/-- Acceptance of a request whose micro-program is `P` (R101). "Acceptance itself emits no event." -/
def accept (p : List MicroOp) (s : State) : Host.Outcome State Fault Refusal := whenReady s fun s => s.load p

/-- What a mirror toggle does at acceptance: the fault when the mirror is UNSET, else its micro-program with the new
value (R104, R144). -/
def State.toggle (s : State) (r : MirrorReg) (op : ToggleOp) (mask : Byte) (word : ReqWord) : State :=
  match s.mirror r with
  | .unset => s.raiseFault .mirrorUnset word
  | .value x => s.load (toggleOps r (toggled op mask x))

/-- Acceptance of a mirror toggle (R101, R144). -/
def acceptToggle (r : MirrorReg) (op : ToggleOp) (mask : Byte) (word : ReqWord) (s : State) :
    Host.Outcome State Fault Refusal := whenReady s fun s => s.toggle r op mask word

/-- A reserved request word: `refuse(ReservedEncoding)`; BUSY stays 0 and RSP is unchanged (30_encoding.md R75, R101). -/
def acceptReserved (word : ReqWord) (s : State) : Host.Outcome State Fault Refusal :=
  whenReady s fun s => s.refuse .reservedEncoding (some word)

/-- Engine reset `rst` (R190, 70_reset_and_hazards.md R200): the values of 10_state.md R34, with `TR`, `FAULTED`,
`REFUSED` and their records, and `LAST` kept (92 D30); it emits no event, touches no pin and abandons any micro-program
(40_bus_strobe.md R115). What the host and the environment still hold is not the engine's (log entry 22). -/
def State.engineReset (s : State) : State :=
  { s with
    fn := fnInit s.cfg
    ctl := .unset
    ems := .unset
    bl := s.cfg.blReset
    oled := false
    phase := .poweredUnknown
    busy := false
    prog := []
    upc := 0
    rsp := 0
    rowoff := rowOffsets s.cfg
    sync := false
    rspDone := false
    stuck := none }

/-- Controller reset `ctrl_reset`: "The event sets the ghost `SYNC <- 0` and changes no engine register" (R189). -/
def State.ctrlReset (s : State) : State := { s with sync := false }

end Sys2Proof.Machine
end

