-- ==== Sys2Proof/Machine/Addressing.lean ====
section
/-! DEFINITION. CLEAR, HOME, SET_CURSOR, CREATE_CHAR and SET_OLED (44_addressing.md). -/

namespace Sys2Proof.Machine

/-- CLEAR: the command, the 2 ms wait, then for an OLED variant the return to (0,0) (R161). -/
def execClear (_a _b : Byte) (s : State) : Host.Outcome State Fault Refusal :=
  accept (clearOps s.oled (cursorCommand s.cfg s.rowoff 0 0) ++ [.done 0]) s

/-- HOME: the command and the 2 ms wait, for every instance (R162). -/
def execHome (_a _b : Byte) (s : State) : Host.Outcome State Fault Refusal := accept (homeOps ++ [.done 0]) s

/-- SET_CURSOR: the row is clamped, the column is not (R163, R164). -/
def execSetCursor (a b : Byte) (s : State) : Host.Outcome State Fault Refusal :=
  accept (send (cursorCommand s.cfg s.rowoff a b) .cmd ++ [.done 0]) s

/-- CREATE_CHAR: the slot masked to three bits, then the eight glyph rows as data bytes (R166, R167). -/
def execCreateChar (a _b : Byte) (g : Glyph) (s : State) : Host.Outcome State Fault Refusal :=
  accept (send (cgramCommand a) .cmd ++ glyphOps g ++ [.done 0]) s

/-- SET_OLED: `SETREG(OLED, A[0]); DONE(0)` (R169). -/
def execSetOled (a _b : Byte) (s : State) : Host.Outcome State Fault Refusal := accept [.setReg (.oled (oledFlag a)), .done 0] s

end Sys2Proof.Machine
end

