-- ==== Sys2Proof/Machine/ByteTransfer.lean ====
section
/-! DEFINITION. The raw passthroughs COMMAND and WRITE (41_byte_transfer.md). -/

namespace Sys2Proof.Machine

/-- COMMAND: `SEND(c, MODE_CMD); DONE(0)` for every byte `c`, unchecked; no wait beyond the settle, and the mirror is not
written (R119, R207, R214 (a)). -/
def execCommand (a _b : Byte) (s : State) : Host.Outcome State Fault Refusal := accept (send a .cmd ++ [.done 0]) s

/-- WRITE: `SEND(d, MODE_DATA); DONE(1)` (R120). -/
def execWrite (a _b : Byte) (s : State) : Host.Outcome State Fault Refusal := accept (send a .data ++ [.done 1]) s

end Sys2Proof.Machine
end

