-- ==== Sys2Proof/Syntax.lean ====
section
/-! DEFINITION. The instructions: one constructor per row of spec/opcode_table.json.

The first 27 are the host requests (30_encoding.md R73). Each carries BOTH operand fields `a` (bits 15:8) and `b`
(bits 7:0) of its word, used or not, because a fault records the whole request word (60_exceptions.md R182) and a field
that a request does not list is ignored, never refused (R74). The next three are the reserved rows (R75), the next nine
the controller byte forms (R76 to R85), the last two the single-nibble forms of the handshake (R86). -/

namespace Sys2Proof

/-- The instructions, in the order of the opcode table. -/
inductive Instr where
  /-- INIT (R125). -/
  | init (a b : Byte)
  /-- COMMAND (R119): `a` is the command byte. -/
  | command (a b : Byte)
  /-- WRITE (R120): `a` is the data byte. -/
  | write (a b : Byte)
  /-- CLEAR (R161). -/
  | clear (a b : Byte)
  /-- HOME (R162). -/
  | home (a b : Byte)
  /-- SET_CURSOR (R164): `a` is the column, `b` the row. -/
  | setCursor (a b : Byte)
  /-- DISPLAY_OFF (R146). -/
  | displayOff (a b : Byte)
  /-- DISPLAY_ON (R147). -/
  | displayOn (a b : Byte)
  /-- CURSOR_OFF (R148). -/
  | cursorOff (a b : Byte)
  /-- CURSOR_ON (R149). -/
  | cursorOn (a b : Byte)
  /-- BLINK_OFF (R150). -/
  | blinkOff (a b : Byte)
  /-- BLINK_ON (R151). -/
  | blinkOn (a b : Byte)
  /-- SCROLL_LEFT (R156). -/
  | scrollLeft (a b : Byte)
  /-- SCROLL_RIGHT (R157). -/
  | scrollRight (a b : Byte)
  /-- LEFT_TO_RIGHT (R152). -/
  | leftToRight (a b : Byte)
  /-- RIGHT_TO_LEFT (R153). -/
  | rightToLeft (a b : Byte)
  /-- AUTOSCROLL_ON (R154). -/
  | autoscrollOn (a b : Byte)
  /-- AUTOSCROLL_OFF (R155). -/
  | autoscrollOff (a b : Byte)
  /-- BACKLIGHT_OFF (R158). -/
  | backlightOff (a b : Byte)
  /-- BACKLIGHT_ON (R159). -/
  | backlightOn (a b : Byte)
  /-- CREATE_CHAR (R166): `a` is the slot, `g` the glyph payload (R72). -/
  | createChar (a b : Byte) (g : Glyph)
  /-- SET_OLED (R169): bit 0 of `a` is the flag. -/
  | setOled (a b : Byte)
  /-- STUB_CONTRAST (R172). -/
  | stubContrast (a b : Byte)
  /-- STUB_BARGRAPH (R173). -/
  | stubBargraph (a b : Byte)
  /-- STUB_KEYPAD (R174). -/
  | stubKeypad (a b : Byte)
  /-- STUB_STATUS (R175). -/
  | stubStatus (a b : Byte)
  /-- STUB_DELAY (R176). -/
  | stubDelay (a b : Byte)
  /-- RESERVED_OP27 (R75): a word with OP = 27, whatever its RSV field. -/
  | reservedOp27 (rsv : BitVec 3) (a b : Byte)
  /-- RESERVED_OP28_31 (R75): a word with OP = 28 + `low`, whatever its RSV field. -/
  | reservedOp28To31 (low : BitVec 2) (rsv : BitVec 3) (a b : Byte)
  /-- RESERVED_RSV (R75): a word with RSV ≠ 0 and an assigned OP (0..26). -/
  | reservedRsv (op : BitVec 5) (rsv : BitVec 3) (a b : Byte)
  /-- CLEAR_DISPLAY (R77), byte 0000 0001. -/
  | clearDisplay
  /-- RETURN_HOME (R78), byte 0000 001x. -/
  | returnHome (x : BitVec 1)
  /-- ENTRY_MODE_SET (R79), byte 0000 01 I S. -/
  | entryModeSet (id s : BitVec 1)
  /-- DISPLAY_CONTROL (R80), byte 0000 1 D C B. -/
  | displayControl (d c b : BitVec 1)
  /-- CURSOR_SHIFT (R81), byte 0001 SC RL x x. -/
  | cursorShift (sc rl : BitVec 1) (x : BitVec 2)
  /-- FUNCTION_SET (R82), byte 001 DL N F x x. -/
  | functionSet (dl n f : BitVec 1) (x : BitVec 2)
  /-- SET_CGRAM_ADDR (R83), byte 01 AAAAAA. -/
  | setCgramAddr (addr : BitVec 6)
  /-- SET_DDRAM_ADDR (R84), byte 1 AAAAAAA. -/
  | setDdramAddr (addr : BitVec 7)
  /-- DATA (R85): any byte sent with RS = 1. -/
  | data (d : Byte)
  /-- INIT_NIBBLE_8BIT (R86): the single strobe 0x30. -/
  | initNibble8Bit
  /-- INIT_NIBBLE_4BIT (R86): the single strobe 0x20. -/
  | initNibble4Bit
  deriving DecidableEq, Repr

end Sys2Proof
end

