-- ==== Sys2Proof/WellFormed.lean ====
section
/-! DEFINITION. Which terms of `Instr` are instructions of the table. Every field has exactly its width, so only the
row RESERVED_RSV needs a check: its RSV field is not zero and its OP field is an assigned code (30_encoding.md R75,
R89); a word with OP 27..31 belongs to the two other reserved rows (log entry 16). -/

namespace Sys2Proof

/-- The check of the opcode table on an instruction (R75, R89). -/
def Instr.wellFormed : Instr → Bool
  | .reservedRsv op rsv _ _ => decide (rsv ≠ 0) && decide (op.toNat ≤ 26)
  | _ => true

/-- The same as a proposition. -/
abbrev Instr.WellFormed (i : Instr) : Prop := i.wellFormed = true

end Sys2Proof
end

