-- ==== Sys2Proof/Decode.lean ====
section
/-! DEFINITION. Decoding, total on every word, byte and nibble, and the encoder written from the same tables.

Three formats carry an instruction (30_encoding.md R66): the 24-bit request word with its glyph payload (R71, R72), the
controller byte with its RS tag (R76, R85), and the single nibble of the handshake (R86). -/

namespace Sys2Proof

/-- One encoded instruction, in its format. -/
inductive Fetched where
  /-- A request word and the glyph payload presented with it (R70, R72). -/
  | req (w : ReqWord) (g : Glyph)
  /-- A controller byte with its RS tag: `false` is a command, `true` is data (R76, R85). -/
  | byte (rs : Bool) (b : Byte)
  /-- A nibble strobed alone, with RS = 0 (R86). -/
  | nibble (n : BitVec 4)
  deriving DecidableEq, Repr

/-- Why a byte or a nibble spells no instruction. A request word always decodes, if only to a reserved row (R89). -/
inductive Reject where
  /-- The command byte 0x00: "in the HD44780 instruction set it is no instruction" (R88). -/
  | noCommand
  /-- A single nibble other than 0x3 and 0x2 (R86). -/
  | noHandshakeNibble
  deriving DecidableEq, Repr

/-- `OP`, bits 23:19 (R71). -/
def opField (w : ReqWord) : BitVec 5 := w.extractLsb' 19 5
/-- `RSV`, bits 18:16 (R71). -/
def rsvField (w : ReqWord) : BitVec 3 := w.extractLsb' 16 3
/-- `A`, bits 15:8 (R71). -/
def aField (w : ReqWord) : Byte := w.extractLsb' 8 8
/-- `B`, bits 7:0 (R71). -/
def bField (w : ReqWord) : Byte := w.extractLsb' 0 8

/-- The request of an operation code with RSV = 0, or the reserved row of an unassigned code (R73, R89). -/
def decodeOp (op : BitVec 5) (rsv : BitVec 3) (a b : Byte) (g : Glyph) : Instr :=
  match op.toNat with
  | 0 => .init a b
  | 1 => .command a b
  | 2 => .write a b
  | 3 => .clear a b
  | 4 => .home a b
  | 5 => .setCursor a b
  | 6 => .displayOff a b
  | 7 => .displayOn a b
  | 8 => .cursorOff a b
  | 9 => .cursorOn a b
  | 10 => .blinkOff a b
  | 11 => .blinkOn a b
  | 12 => .scrollLeft a b
  | 13 => .scrollRight a b
  | 14 => .leftToRight a b
  | 15 => .rightToLeft a b
  | 16 => .autoscrollOn a b
  | 17 => .autoscrollOff a b
  | 18 => .backlightOff a b
  | 19 => .backlightOn a b
  | 20 => .createChar a b g
  | 21 => .setOled a b
  | 22 => .stubContrast a b
  | 23 => .stubBargraph a b
  | 24 => .stubKeypad a b
  | 25 => .stubStatus a b
  | 26 => .stubDelay a b
  | 27 => .reservedOp27 rsv a b
  | _ => .reservedOp28To31 (op.setWidth 2) rsv a b

/-- Request decode, total on all 2^24 words (R89). The glyph is decoded for OP = 20 only. A word with RSV ≠ 0 is
reserved whatever its OP; where OP is unassigned too, the OP row names it (log entry 16: the effect is the same). -/
def decodeReq (w : ReqWord) (g : Glyph) : Instr :=
  if rsvField w ≠ 0 ∧ (opField w).toNat ≤ 26 then
    .reservedRsv (opField w) (rsvField w) (aField w) (bField w)
  else
    decodeOp (opField w) (rsvField w) (aField w) (bField w) g

/-- A command byte: "The controller selects the instruction from the position of the highest set bit" (R76). -/
def decodeCommandByte (c : Byte) : Except Reject Instr :=
  if c.getLsbD 7 then .ok (.setDdramAddr (c.extractLsb' 0 7))
  else if c.getLsbD 6 then .ok (.setCgramAddr (c.extractLsb' 0 6))
  else if c.getLsbD 5 then
    .ok (.functionSet (c.extractLsb' 4 1) (c.extractLsb' 3 1) (c.extractLsb' 2 1) (c.extractLsb' 0 2))
  else if c.getLsbD 4 then .ok (.cursorShift (c.extractLsb' 3 1) (c.extractLsb' 2 1) (c.extractLsb' 0 2))
  else if c.getLsbD 3 then .ok (.displayControl (c.extractLsb' 2 1) (c.extractLsb' 1 1) (c.extractLsb' 0 1))
  else if c.getLsbD 2 then .ok (.entryModeSet (c.extractLsb' 1 1) (c.extractLsb' 0 1))
  else if c.getLsbD 1 then .ok (.returnHome (c.extractLsb' 0 1))
  else if c.getLsbD 0 then .ok .clearDisplay
  else .error .noCommand

/-- A nibble strobed alone (R86): 0x3 is the 8-bit mode request, 0x2 the 4-bit lock. -/
def decodeNibble (n : BitVec 4) : Except Reject Instr :=
  if n = 3 then .ok .initNibble8Bit
  else if n = 2 then .ok .initNibble4Bit
  else .error .noHandshakeNibble

/-- Decoding in every format. -/
def decode : Fetched → Except Reject Instr
  | .req w g => .ok (decodeReq w g)
  | .byte false c => decodeCommandByte c
  | .byte true d => .ok (.data d)
  | .nibble n => decodeNibble n

/-- A request word from its fields: OP in 23:19, RSV in 18:16, A in 15:8, B in 7:0 (R71). -/
def reqWord (op : BitVec 5) (rsv : BitVec 3) (a b : Byte) : ReqWord := op ++ rsv ++ a ++ b

/-- The encoder (R71 to R86). A request other than CREATE_CHAR is given the glyph payload 0, which nothing reads. -/
def encode : Instr → Fetched
  | .init a b => .req (reqWord 0b00000 0 a b) 0
  | .command a b => .req (reqWord 0b00001 0 a b) 0
  | .write a b => .req (reqWord 0b00010 0 a b) 0
  | .clear a b => .req (reqWord 0b00011 0 a b) 0
  | .home a b => .req (reqWord 0b00100 0 a b) 0
  | .setCursor a b => .req (reqWord 0b00101 0 a b) 0
  | .displayOff a b => .req (reqWord 0b00110 0 a b) 0
  | .displayOn a b => .req (reqWord 0b00111 0 a b) 0
  | .cursorOff a b => .req (reqWord 0b01000 0 a b) 0
  | .cursorOn a b => .req (reqWord 0b01001 0 a b) 0
  | .blinkOff a b => .req (reqWord 0b01010 0 a b) 0
  | .blinkOn a b => .req (reqWord 0b01011 0 a b) 0
  | .scrollLeft a b => .req (reqWord 0b01100 0 a b) 0
  | .scrollRight a b => .req (reqWord 0b01101 0 a b) 0
  | .leftToRight a b => .req (reqWord 0b01110 0 a b) 0
  | .rightToLeft a b => .req (reqWord 0b01111 0 a b) 0
  | .autoscrollOn a b => .req (reqWord 0b10000 0 a b) 0
  | .autoscrollOff a b => .req (reqWord 0b10001 0 a b) 0
  | .backlightOff a b => .req (reqWord 0b10010 0 a b) 0
  | .backlightOn a b => .req (reqWord 0b10011 0 a b) 0
  | .createChar a b g => .req (reqWord 0b10100 0 a b) g
  | .setOled a b => .req (reqWord 0b10101 0 a b) 0
  | .stubContrast a b => .req (reqWord 0b10110 0 a b) 0
  | .stubBargraph a b => .req (reqWord 0b10111 0 a b) 0
  | .stubKeypad a b => .req (reqWord 0b11000 0 a b) 0
  | .stubStatus a b => .req (reqWord 0b11001 0 a b) 0
  | .stubDelay a b => .req (reqWord 0b11010 0 a b) 0
  | .reservedOp27 rsv a b => .req (reqWord 0b11011 rsv a b) 0
  | .reservedOp28To31 low rsv a b => .req (reqWord (0b111#3 ++ low) rsv a b) 0
  | .reservedRsv op rsv a b => .req (reqWord op rsv a b) 0
  | .clearDisplay => .byte false 0b00000001
  | .returnHome x => .byte false (0b0000001#7 ++ x)
  | .entryModeSet id s => .byte false (0b000001#6 ++ id ++ s)
  | .displayControl d c b => .byte false (0b00001#5 ++ d ++ c ++ b)
  | .cursorShift sc rl x => .byte false (0b0001#4 ++ sc ++ rl ++ x)
  | .functionSet dl n f x => .byte false (0b001#3 ++ dl ++ n ++ f ++ x)
  | .setCgramAddr addr => .byte false (0b01#2 ++ addr)
  | .setDdramAddr addr => .byte false (0b1#1 ++ addr)
  | .data d => .byte true d
  | .initNibble8Bit => .nibble 3
  | .initNibble4Bit => .nibble 2

/-- The encoded form that `nbits` bits `w` of the opcode table stand for (log entry 10). A request is its 24-bit word
with the glyph payload above it (bits 87:24). A byte form is 8 bits: a command byte, and byte 0x00, which is no command
(R88), is the one byte that only the row DATA fits. Nine bits are a byte with its RS tag in bit 8, four a single nibble:
in 8 bits a handshake nibble cannot be told from FUNCTION_SET, since "A decoder of the bus can tell the form only from
position" (R86). -/
def tableWord (nbits w : Nat) : Fetched :=
  match nbits with
  | 4 => .nibble (BitVec.ofNat 4 w)
  | 8 => .byte (BitVec.ofNat 8 w == 0#8) (BitVec.ofNat 8 w)
  | 9 => .byte (w.testBit 8) (BitVec.ofNat 8 w)
  | _ => .req (BitVec.ofNat 24 w) (BitVec.ofNat 64 (w >>> 24))

/-- What the decoder reads from an instruction whose bits are numbered as the opcode table numbers them. -/
def decodeTableWord (nbits w : Nat) : Option Instr :=
  match decode (tableWord nbits w) with
  | .ok i => some i
  | .error _ => none

end Sys2Proof
end

