-- ==== Sys2Proof/Machine/ControllerForms.lean ====
section
/-! DEFINITION. The controller byte forms of the opcode table (30_encoding.md R76 to R86) as instructions of their own.

"An HDCMD is an 8-bit value `c` sent with RS = 0 by `SEND(c, MODE_CMD)`" (R76); a data byte is sent by `SEND(d, MODE_DATA)`
(R85). The requests that send one such byte directly are the raw passthroughs COMMAND and WRITE, "the two public-facing
wrappers" (R85, R119, R120), so an instruction of these forms runs as its passthrough does (log entry 10). The two
handshake nibbles are one STROBE each (R86), which only INIT issues; standing alone they are that STROBE and a DONE (log
entry 11). -/

namespace Sys2Proof.Machine

/-- A command byte sent on its own: the micro-program of `COMMAND c` (R76, R119). -/
def sendCommandByte (c : Byte) (s : State) : Host.Outcome State Fault Refusal := accept (send c .cmd ++ [.done 0]) s

/-- CLEAR_DISPLAY, byte 0x01 (R77); no 2 ms wait: that is the request CLEAR's (R119 (1)). -/
def execClearDisplay (s : State) : Host.Outcome State Fault Refusal := sendCommandByte cmdClearDisplay s

/-- RETURN_HOME, byte 0x02 with its ignored bit as given (R78). -/
def execReturnHome (x : BitVec 1) (s : State) : Host.Outcome State Fault Refusal := sendCommandByte (0b0000001#7 ++ x) s

/-- ENTRY_MODE_SET (R79); sent raw, it leaves the mirror EMS as it is (R119). -/
def execEntryModeSet (id sh : BitVec 1) (s : State) : Host.Outcome State Fault Refusal := sendCommandByte (0b000001#6 ++ id ++ sh) s

/-- DISPLAY_CONTROL (R80); sent raw, it leaves the mirror CTL as it is (R119). -/
def execDisplayControl (d c b : BitVec 1) (s : State) : Host.Outcome State Fault Refusal :=
  sendCommandByte (0b00001#5 ++ d ++ c ++ b) s

/-- CURSOR_SHIFT (R81). -/
def execCursorShift (sc rl : BitVec 1) (x : BitVec 2) (s : State) : Host.Outcome State Fault Refusal :=
  sendCommandByte (0b0001#4 ++ sc ++ rl ++ x) s

/-- FUNCTION_SET (R82); sent raw, it leaves the mirror FN as it is (R119). -/
def execFunctionSet (dl n f : BitVec 1) (x : BitVec 2) (s : State) : Host.Outcome State Fault Refusal :=
  sendCommandByte (0b001#3 ++ dl ++ n ++ f ++ x) s

/-- SET_CGRAM_ADDR (R83). -/
def execSetCgramAddr (addr : BitVec 6) (s : State) : Host.Outcome State Fault Refusal := sendCommandByte (0b01#2 ++ addr) s

/-- SET_DDRAM_ADDR (R84). -/
def execSetDdramAddr (addr : BitVec 7) (s : State) : Host.Outcome State Fault Refusal := sendCommandByte (0b1#1 ++ addr) s

/-- DATA: the micro-program of `WRITE d` (R85, R120). -/
def execData (d : Byte) (s : State) : Host.Outcome State Fault Refusal := accept (send d .data ++ [.done 1]) s

/-- INIT_NIBBLE_8BIT: one STROBE of 0x30 (R86, R131 to R133). -/
def execInitNibble8Bit (s : State) : Host.Outcome State Fault Refusal := accept (strobe 0x30 ++ [.done 0]) s

/-- INIT_NIBBLE_4BIT: one STROBE of 0x20 (R86, R134). -/
def execInitNibble4Bit (s : State) : Host.Outcome State Fault Refusal := accept (strobe 0x20 ++ [.done 0]) s

end Sys2Proof.Machine
end

