-- ==== Sys2Proof/Machine/InitSequencer.lean ====
section
/-! DEFINITION. INIT, the power-on handshake (42_init.md R125 to R143). -/

namespace Sys2Proof.Machine

/-- INIT: the micro-program of R125 with `x[FN]`, `x[OLED]` and the OLED variant's return to (0,0) resolved at acceptance
(R135, R137, R138); accepted in any PHASE and with any SYNC (R139). -/
def execInit (_a _b : Byte) (s : State) : Host.Outcome State Fault Refusal :=
  accept (initOps s.fn s.oled (cursorCommand s.cfg s.rowoff 0 0)) s

end Sys2Proof.Machine
end

