-- ==== Sys2Proof/Machine/Reserved.lean ====
section
/-! DEFINITION. The reserved request words (30_encoding.md R75, 60_exceptions.md R183, R184): a refusal sets REFUSED and
records the word, and the run goes on. -/

namespace Sys2Proof.Machine

/-- RESERVED_OP27: a word with OP = 27 (R75). -/
def execReservedOp27 (rsv : BitVec 3) (a b : Byte) (s : State) : Host.Outcome State Fault Refusal :=
  acceptReserved (reqWord 0b11011 rsv a b) s

/-- RESERVED_OP28_31: a word with OP = 28..31 (R75). -/
def execReservedOp28To31 (low : BitVec 2) (rsv : BitVec 3) (a b : Byte) (s : State) : Host.Outcome State Fault Refusal :=
  acceptReserved (reqWord (0b111#3 ++ low) rsv a b) s

/-- RESERVED_RSV: a word with RSV ≠ 0 (R75). -/
def execReservedRsv (op : BitVec 5) (rsv : BitVec 3) (a b : Byte) (s : State) : Host.Outcome State Fault Refusal :=
  acceptReserved (reqWord op rsv a b) s

end Sys2Proof.Machine
end

