-- ==== Sys2Proof/Machine/ScrollBacklight.lean ====
section
/-! DEFINITION. Scroll, which has no mirror (43_mirror_toggles.md R156, R157; 90 C1), and the backlight (R158, R159). -/

namespace Sys2Proof.Machine

/-- SCROLL_LEFT: CURSOR_SHIFT with display-move and move-left, byte 0x18 (R156). -/
def execScrollLeft (_a _b : Byte) (s : State) : Host.Outcome State Fault Refusal :=
  accept (send (cmdCursorShift ||| flagDisplayMove ||| flagMoveLeft) .cmd ++ [.done 0]) s

/-- SCROLL_RIGHT: CURSOR_SHIFT with display-move and move-right, byte 0x1C (R157). -/
def execScrollRight (_a _b : Byte) (s : State) : Host.Outcome State Fault Refusal :=
  accept (send (cmdCursorShift ||| flagDisplayMove ||| flagMoveRight) .cmd ++ [.done 0]) s

/-- BACKLIGHT_OFF: `SETREG(BL, 0); XFER(0x00); DONE(0)` (R158). -/
def execBacklightOff (_a _b : Byte) (s : State) : Host.Outcome State Fault Refusal :=
  accept [.setReg (.bl false), .xfer 0x00, .done 0] s

/-- BACKLIGHT_ON: `SETREG(BL, 1); XFER(0x00); DONE(0)` (R159). -/
def execBacklightOn (_a _b : Byte) (s : State) : Host.Outcome State Fault Refusal :=
  accept [.setReg (.bl true), .xfer 0x00, .done 0] s

end Sys2Proof.Machine
end

