-- ==== Sys2Proof/Machine/Stubs.lean ====
section
/-! DEFINITION. The stub requests: each is `DONE(0)` and nothing else (45_stubs_aliases.md R171 to R178). -/

namespace Sys2Proof.Machine

/-- STUB_CONTRAST (R172). -/
def execStubContrast (_a _b : Byte) (s : State) : Host.Outcome State Fault Refusal := accept [.done 0] s

/-- STUB_BARGRAPH (R173). -/
def execStubBargraph (_a _b : Byte) (s : State) : Host.Outcome State Fault Refusal := accept [.done 0] s

/-- STUB_KEYPAD (R174). -/
def execStubKeypad (_a _b : Byte) (s : State) : Host.Outcome State Fault Refusal := accept [.done 0] s

/-- STUB_STATUS (R175). -/
def execStubStatus (_a _b : Byte) (s : State) : Host.Outcome State Fault Refusal := accept [.done 0] s

/-- STUB_DELAY (R176). -/
def execStubDelay (_a _b : Byte) (s : State) : Host.Outcome State Fault Refusal := accept [.done 0] s

end Sys2Proof.Machine
end

