-- ==== Sys2Proof/Machine/Toggles.lean ====
section
/-! DEFINITION. The ten mirror toggles (43_mirror_toggles.md R144 to R155). The request word goes with each, because the
fault of a toggle whose mirror is UNSET records it (60_exceptions.md R182). -/

namespace Sys2Proof.Machine

/-- DISPLAY_OFF (R146): the toggle of R144 with R = CTL, M = 0x04, clear. -/
def execDisplayOff (a b : Byte) (s : State) : Host.Outcome State Fault Refusal :=
  acceptToggle .ctl .clear flagDisplay (reqWord 0b00110 0 a b) s

/-- DISPLAY_ON (R147): the toggle of R144 with R = CTL, M = 0x04, set. -/
def execDisplayOn (a b : Byte) (s : State) : Host.Outcome State Fault Refusal :=
  acceptToggle .ctl .set flagDisplay (reqWord 0b00111 0 a b) s

/-- CURSOR_OFF (R148): the toggle of R144 with R = CTL, M = 0x02, clear. -/
def execCursorOff (a b : Byte) (s : State) : Host.Outcome State Fault Refusal :=
  acceptToggle .ctl .clear flagCursor (reqWord 0b01000 0 a b) s

/-- CURSOR_ON (R149): the toggle of R144 with R = CTL, M = 0x02, set. -/
def execCursorOn (a b : Byte) (s : State) : Host.Outcome State Fault Refusal :=
  acceptToggle .ctl .set flagCursor (reqWord 0b01001 0 a b) s

/-- BLINK_OFF (R150): the toggle of R144 with R = CTL, M = 0x01, clear. -/
def execBlinkOff (a b : Byte) (s : State) : Host.Outcome State Fault Refusal :=
  acceptToggle .ctl .clear flagBlink (reqWord 0b01010 0 a b) s

/-- BLINK_ON (R151): the toggle of R144 with R = CTL, M = 0x01, set. -/
def execBlinkOn (a b : Byte) (s : State) : Host.Outcome State Fault Refusal :=
  acceptToggle .ctl .set flagBlink (reqWord 0b01011 0 a b) s

/-- LEFT_TO_RIGHT (R152): the toggle of R144 with R = EMS, M = 0x02, set. -/
def execLeftToRight (a b : Byte) (s : State) : Host.Outcome State Fault Refusal :=
  acceptToggle .ems .set flagEntryLeft (reqWord 0b01110 0 a b) s

/-- RIGHT_TO_LEFT (R153): the toggle of R144 with R = EMS, M = 0x02, clear. -/
def execRightToLeft (a b : Byte) (s : State) : Host.Outcome State Fault Refusal :=
  acceptToggle .ems .clear flagEntryLeft (reqWord 0b01111 0 a b) s

/-- AUTOSCROLL_ON (R154): the toggle of R144 with R = EMS, M = 0x01, set. -/
def execAutoscrollOn (a b : Byte) (s : State) : Host.Outcome State Fault Refusal :=
  acceptToggle .ems .set flagEntryShift (reqWord 0b10000 0 a b) s

/-- AUTOSCROLL_OFF (R155): the toggle of R144 with R = EMS, M = 0x01, clear. -/
def execAutoscrollOff (a b : Byte) (s : State) : Host.Outcome State Fault Refusal :=
  acceptToggle .ems .clear flagEntryShift (reqWord 0b10001 0 a b) s

end Sys2Proof.Machine
end

