-- ==== Sys2Proof/Machine/Dispatch.lean ====
section
/-! DEFINITION. The dispatch: one arm per constructor of Instr, each one call of that instruction's meaning. -/

namespace Sys2Proof.Machine

def exec (i : Instr) (s : State) : Host.Outcome State Fault Refusal :=
  match i with
  | .init a b => Sys2Proof.Machine.execInit a b s
  | .command a b => Sys2Proof.Machine.execCommand a b s
  | .write a b => Sys2Proof.Machine.execWrite a b s
  | .clear a b => Sys2Proof.Machine.execClear a b s
  | .home a b => Sys2Proof.Machine.execHome a b s
  | .setCursor a b => Sys2Proof.Machine.execSetCursor a b s
  | .displayOff a b => Sys2Proof.Machine.execDisplayOff a b s
  | .displayOn a b => Sys2Proof.Machine.execDisplayOn a b s
  | .cursorOff a b => Sys2Proof.Machine.execCursorOff a b s
  | .cursorOn a b => Sys2Proof.Machine.execCursorOn a b s
  | .blinkOff a b => Sys2Proof.Machine.execBlinkOff a b s
  | .blinkOn a b => Sys2Proof.Machine.execBlinkOn a b s
  | .scrollLeft a b => Sys2Proof.Machine.execScrollLeft a b s
  | .scrollRight a b => Sys2Proof.Machine.execScrollRight a b s
  | .leftToRight a b => Sys2Proof.Machine.execLeftToRight a b s
  | .rightToLeft a b => Sys2Proof.Machine.execRightToLeft a b s
  | .autoscrollOn a b => Sys2Proof.Machine.execAutoscrollOn a b s
  | .autoscrollOff a b => Sys2Proof.Machine.execAutoscrollOff a b s
  | .backlightOff a b => Sys2Proof.Machine.execBacklightOff a b s
  | .backlightOn a b => Sys2Proof.Machine.execBacklightOn a b s
  | .createChar a b g => Sys2Proof.Machine.execCreateChar a b g s
  | .setOled a b => Sys2Proof.Machine.execSetOled a b s
  | .stubContrast a b => Sys2Proof.Machine.execStubContrast a b s
  | .stubBargraph a b => Sys2Proof.Machine.execStubBargraph a b s
  | .stubKeypad a b => Sys2Proof.Machine.execStubKeypad a b s
  | .stubStatus a b => Sys2Proof.Machine.execStubStatus a b s
  | .stubDelay a b => Sys2Proof.Machine.execStubDelay a b s
  | .reservedOp27 rsv a b => Sys2Proof.Machine.execReservedOp27 rsv a b s
  | .reservedOp28To31 low rsv a b => Sys2Proof.Machine.execReservedOp28To31 low rsv a b s
  | .reservedRsv op rsv a b => Sys2Proof.Machine.execReservedRsv op rsv a b s
  | .clearDisplay => Sys2Proof.Machine.execClearDisplay s
  | .returnHome x => Sys2Proof.Machine.execReturnHome x s
  | .entryModeSet id sh => Sys2Proof.Machine.execEntryModeSet id sh s
  | .displayControl d c b => Sys2Proof.Machine.execDisplayControl d c b s
  | .cursorShift sc rl x => Sys2Proof.Machine.execCursorShift sc rl x s
  | .functionSet dl n f x => Sys2Proof.Machine.execFunctionSet dl n f x s
  | .setCgramAddr addr => Sys2Proof.Machine.execSetCgramAddr addr s
  | .setDdramAddr addr => Sys2Proof.Machine.execSetDdramAddr addr s
  | .data d => Sys2Proof.Machine.execData d s
  | .initNibble8Bit => Sys2Proof.Machine.execInitNibble8Bit s
  | .initNibble4Bit => Sys2Proof.Machine.execInitNibble4Bit s

end Sys2Proof.Machine
end

