-- ==== Sys2Proof/Machine/Fetch.lean ====
section
/-! DEFINITION. One step of the whole machine, in the parts a step is made of: the environment's event first, then the
engine's own step, which performs a micro-operation or accepts a request. -/

namespace Sys2Proof.Machine

/-- The host's turn, with BUSY = 0: the request it presents is sampled, decoded and accepted (30_encoding.md R70,
40_bus_strobe.md R101); with none presented the engine waits for one (70_reset_and_hazards.md R200). -/
def acceptNext (s : State) : Host.Outcome State Fault Refusal :=
  match s.host with
  | [] => .next s.clearPulse
  | r :: rest => exec (decodeReq r.word r.glyph) { s.clearPulse with host := rest }

/-- The engine's turn, with BUSY = 1: the micro-operation `PROG[UPC]` (10_state.md R25). -/
def performNext (d : Draw) (s : State) : Host.Outcome State Fault Refusal :=
  match s.prog[s.upc.toNat]? with
  | some m => .next (s.perform d m)
  | none => .fault .upcOutsideProgram

/-- A step of the engine with its host, the environment answering `d` (60_exceptions.md R180, R186, R187). -/
def engineStep (d : Draw) (s : State) : Host.Outcome State Fault Refusal :=
  if configLegal s.cfg = false then .refused .badConfig
  else if s.faulted then .fault .engineFaulted
  else
    match s.stuck with
    | some .transport => .fault .transportStuck
    | some .timer => .fault .timerStuck
    | none => if s.busy then performNext d s else acceptNext s

/-- A step of the machine: `rst` wins over everything, `ctrl_reset` falls between two events and changes only SYNC, and
otherwise the engine steps with the environment's answer (R192). -/
def machineStep (s : State) : Host.Outcome State Fault Refusal :=
  match s.env with
  | [] => engineStep .ack s
  | .rst :: rest => .next { s with env := rest }.engineReset
  | .ctrlReset :: rest => .next { s with env := rest }.ctrlReset
  | .answer d :: rest => engineStep d { s with env := rest }

/-- The request that makes the engine run an encoded instruction: a request itself; for a controller byte the raw
passthrough that sends it, COMMAND (OP = 1) or WRITE (OP = 2) (R119, R120). A single nibble has none. -/
def requestOf : Fetched → Option Request
  | .req w g => some ⟨w, g⟩
  | .byte false c => some ⟨reqWord 0b00001 0 c 0, 0⟩
  | .byte true d => some ⟨reqWord 0b00010 0 d 0, 0⟩
  | .nibble _ => none

/-- The state in which the host presents an encoded instruction and the next step accepts it: the request in front of the
host's others, the environment silent, the engine idle (log entry 25). A single nibble cannot be presented: only INIT strobes one (R86), and the state is left as it
is. -/
def presenting (s : State) (f : Fetched) : State :=
  match requestOf f with
  | some r => { s with host := r :: s.host, env := [], stuck := none, busy := false, prog := [], upc := 0 }
  | none => s

end Sys2Proof.Machine
end

