-- ==== Sys2Proof/Machine/Step.lean ====
section
/-! DEFINITION. The machine's step and the placing of an instruction where it fetches. Both only call Fetch.lean. -/

namespace Sys2Proof.Machine

/-- One step: a next state, a fault or a refusal (00_scope.md R12, 60_exceptions.md R180). -/
def step (s : State) : Host.Outcome State Fault Refusal := machineStep s

/-- `s` with the instruction of `nbits` bits `w` presented by the host (log entries 3 and 25). -/
def State.withFetchWord (s : State) (nbits w : Nat) : State := presenting s (tableWord nbits w)

end Sys2Proof.Machine
end

