-- ==== Sys2Proof/Machine/BusView.lean ====
section
/-! DEFINITION. The decoding view of the bus (20_memory.md R61 to R65): "how the bytes in `TR` reach the controller". It
describes no part of the engine; it is what tests and claims read. -/

namespace Sys2Proof.Machine

/-- A nibble of INIT's handshake: latched while SYNC = 0 in one of the states that strobe a single nibble (R63, R86). -/
def Latch.isHandshake (l : Latch) : Bool :=
  !l.sync && (l.phase = .modeRequested1 || l.phase = .modeRequested2 || l.phase = .modeRequested3 ||
    l.phase = .fourBitLocked)

/-- `NS`, the nibbles latched while SYNC = 1 with their RS (R64). -/
def syncNibbles (ls : List Latch) : List (BitVec 4 × Bool) :=
  (ls.filter (·.sync)).map fun l => (l.nibble, l.rs)

/-- `NS` paired from its start: elements 2k and 2k+1 form the byte with the first one's RS (R64). A last nibble without
its partner forms no byte. -/
def pairNibbles : List (BitVec 4 × Bool) → List (Bool × Byte)
  | (h, rs) :: (l, _) :: rest => (rs, h ++ l) :: pairNibbles rest
  | _ => []

/-- The pairs of `NS` alone, without the handshake (R64). -/
def decodedBytes (ls : List Latch) : List (Bool × Byte) := pairNibbles (syncNibbles ls)

/-- The handshake nibbles alone, "decoded one by one as `(0, n << 4)`" (R64). -/
def handshakeBytes (ls : List Latch) : List (Bool × Byte) :=
  (ls.filter Latch.isHandshake).map fun l => (false, l.nibble ++ (0#4))

/-- What the latched nibbles spell, in the order of the bus (R63, R64): each handshake nibble by itself, and each pair of
`NS` as a byte, which stands where its second nibble was latched; `first` is an element of `NS` that waits for its
partner. The other nibbles latched while SYNC = 0 spell nothing: `DS` is undefined for them (log entry 14). -/
def spelledFrom : Option (BitVec 4 × Bool) → List Latch → List Fetched
  | _, [] => []
  | first, l :: rest =>
    if l.sync then
      match first with
      | none => spelledFrom (some (l.nibble, l.rs)) rest
      | some (h, rs) => .byte rs (h ++ l.nibble) :: spelledFrom none rest
    else if l.isHandshake then .nibble l.nibble :: spelledFrom first rest
    else spelledFrom first rest

/-- What a run's latched nibbles spell, from its first one. -/
def spelled (ls : List Latch) : List Fetched := spelledFrom none ls

/-- The entry of `DS` for a byte or a handshake nibble (R64). A request word is no traffic of the bus. -/
def streamEntry : Fetched → Option (Bool × Byte)
  | .byte rs b => some (rs, b)
  | .nibble n => some (false, n ++ (0#4))
  | .req _ _ => none

/-- `DS`, the decoded byte stream, ONE list of `(rs, byte)` in the order of the bus: the handshake nibbles as
`(0, n << 4)` among the pairs of `NS` (R64; log entry 14). -/
def decodedStream (ls : List Latch) : List (Bool × Byte) := (spelled ls).filterMap streamEntry

/-- The instructions of the controller that the stream spells, the handshake nibbles among them; a byte 0x00 with RS = 0
spells none (R64, R86, R88). -/
def decodedInstrs (ls : List Latch) : List (Except Reject Instr) := (spelled ls).map decode

/-- The bus events a micro-program emits when it is performed to its end with backlight bit `bl` (R37, R38, R95). -/
def busEvents (addr : BitVec 7) : Bool → List MicroOp → List BusEvent
  | _, [] => []
  | bl, .xfer v :: rest => .xfer addr (v ||| blBits bl) :: busEvents addr bl rest
  | bl, .wait t :: rest => .wait t :: busEvents addr bl rest
  | bl, .busInit :: rest => .busInit :: busEvents addr bl rest
  | _, .setReg (.bl v) :: rest => busEvents addr v rest
  | bl, .setReg (.ctl _) :: rest => busEvents addr bl rest
  | bl, .setReg (.ems _) :: rest => busEvents addr bl rest
  | bl, .setReg (.oled _) :: rest => busEvents addr bl rest
  | bl, .enter _ :: rest => busEvents addr bl rest
  | bl, .sync _ :: rest => busEvents addr bl rest
  | bl, .done _ :: rest => busEvents addr bl rest

/-- How many transfers a micro-program makes (42_init.md R142, 70_reset_and_hazards.md R220). -/
def countXfers : List MicroOp → Nat
  | [] => 0
  | .xfer _ :: rest => 1 + countXfers rest
  | _ :: rest => countXfers rest

/-- How many waits it makes (R142). -/
def countWaits : List MicroOp → Nat
  | [] => 0
  | .wait _ :: rest => 1 + countWaits rest
  | _ :: rest => countWaits rest

/-- The sum of its wait minima in microseconds (R142, R220). -/
def waitSum : List MicroOp → Micros
  | [] => 0
  | .wait t :: rest => t + waitSum rest
  | _ :: rest => waitSum rest

end Sys2Proof.Machine
end

