-- ==== Sys2Proof/Safety.lean ====
section
/-! DEFINITION. The terms the statements use: when a request is accepted, what it means for an instruction to run to its
DONE, the traces the spec writes out for a strobe and a byte, and the machine's invariant. -/

namespace Sys2Proof.Machine

/-- "A request is accepted only when `BUSY = 0`, the state is not faulted, and the instance was not refused at
construction" (60_exceptions.md R186). -/
abbrev State.Ready (s : State) : Prop := configLegal s.cfg = true ∧ s.faulted = false ∧ s.busy = false

/-- A micro-program is running and its collaborators answer (10_state.md R25). -/
abbrev State.Running (s : State) : Prop :=
  configLegal s.cfg = true ∧ s.faulted = false ∧ s.busy = true ∧ s.stuck = none

/-- Nothing interferes: no reset is due and no collaborator has failed to complete, so that every transfer and wait to
come completes and is acknowledged (R187, R218). -/
abbrev State.Undisturbed (s : State) : Prop := s.env = [] ∧ s.stuck = none

/-- Instruction `i`, accepted in `s`, has run `n` micro-operations after its acceptance and reached `u`. -/
def RunsTo (i : Instr) (s : State) (n : Nat) (u : State) : Prop :=
  ∃ t, exec i s = .next t ∧ Host.Core.run Sys2Proof.core n t = .next u

/-- The engine back in its idle state after a request that transferred the events `es`, the last byte being `last`, and
answered `r`; `ls` are the nibbles latched. Every other field is as in `s`. -/
def State.answered (s : State) (es : List BusEvent) (last : Byte) (ls : List Latch) (r : Byte) : State :=
  { s with
    tr := s.tr ++ es
    last := last
    pins := last
    latches := s.latches ++ ls
    rsp := r
    rspDone := true
    busy := false
    prog := []
    upc := 0 }

/-- What STROBE(n) emits, written out from R110 for an `n` with E = 0. -/
def strobeEvents (addr : BitVec 7) (bl : Bool) (n : Byte) : List BusEvent :=
  [.xfer addr (n ||| blBits bl), .xfer addr (n ||| 0x04 ||| blBits bl), .wait 1, .xfer addr (n ||| blBits bl), .wait 42]

/-- The nibble bytes of a byte `b` with RS bit `rs`: `(b & 0xF0) | mode`, then `((b << 4) & 0xF0) | mode` (R122). -/
def nibbleBytes (b : Byte) (rs : Bool) : Byte × Byte :=
  ((b &&& 0xF0) ||| (if rs then 1 else 0), ((b <<< 4) &&& 0xF0) ||| (if rs then 1 else 0))

/-- What SEND(b, m) emits, written out from R110 and R118. -/
def sendEvents (addr : BitVec 7) (bl : Bool) (b : Byte) (rs : Bool) : List BusEvent :=
  strobeEvents addr bl (nibbleBytes b rs).1 ++ strobeEvents addr bl (nibbleBytes b rs).2

/-- The last byte SEND(b, m) transfers. -/
def sendLast (bl : Bool) (b : Byte) (rs : Bool) : Byte := (nibbleBytes b rs).2 ||| blBits bl

/-- The byte SET_CURSOR sends for a column and a row, as a number (44_addressing.md R163): 0x80 plus the sum modulo 128 of
the column and the base of the row clamped to [0, min(ROWS, 4) - 1]. -/
def cursorByte (c : Config) (col row : Byte) : Nat :=
  0x80 + ([0x00, 0x40, c.cols.toNat, 0x40 + c.cols.toNat].getD (min row.toNat (min c.rows.toNat 4 - 1)) 0 + col.toNat) % 128

/-- What INIT emits (42_init.md R125), written out state by state. -/
def initEvents (addr : BitVec 7) (bl : Bool) (fn : Byte) (oled : Bool) : List BusEvent :=
  [.busInit, .wait 50000, .xfer addr (blBits bl), .wait 500000] ++
  strobeEvents addr bl 0x30 ++ [.wait 4200] ++
  strobeEvents addr bl 0x30 ++ [.wait 110] ++
  strobeEvents addr bl 0x30 ++ strobeEvents addr bl 0x20 ++
  sendEvents addr bl (0x20 ||| fn) false ++ sendEvents addr bl 0x0C false ++
  sendEvents addr bl 0x01 false ++ [.wait 2000] ++ (if oled then sendEvents addr bl 0x80 false else []) ++
  sendEvents addr bl 0x06 false ++ sendEvents addr bl 0x02 false ++ [.wait 2000]

/-- How many micro-operations INIT has (R142). -/
def initLength (oled : Bool) : Nat := if oled then 105 else 95

/-- The state INIT ends in: the mirror set, PHASE 11, SYNC 1, and else as any request leaves it (R125). -/
def State.initialised (s : State) (ls : List Latch) : State :=
  { s.answered (initEvents s.cfg.addr7 s.bl s.fn s.oled) (sendLast s.bl 0x02 false) ls 0 with
    ctl := .value 0x04
    ems := .value 0x02
    phase := .ready
    sync := true }

/-- Whether a micro-operation is a DONE (R100). -/
def MicroOp.isDone : MicroOp → Bool
  | .done _ => true
  | _ => false

/-- What every micro-operation of a micro-program keeps to: a mirror value uses only its register's bits (10_state.md
R16, R17), and a transferred value has R/W and the backlight bit low (20_memory.md R38, R43). -/
def MicroOp.ok : MicroOp → Bool
  | .setReg (.ctl v) => v &&& 0xF8 == 0
  | .setReg (.ems v) => v &&& 0xFC == 0
  | .xfer v => !pinRw v && !pinBl v
  | _ => true

/-- "Every micro-program ends with exactly one DONE and has no other DONE" (R100). -/
def endsInDone : List MicroOp → Bool
  | [] => false
  | [m] => m.isDone
  | m :: rest => !m.isDone && endsInDone rest

/-- A micro-program as `expand` builds them: at most 127 micro-operations (R24), one DONE at the end, each in form. -/
def programOk (p : List MicroOp) : Bool := decide (p.length ≤ 127) && endsInDone p && p.all MicroOp.ok

/-- Whether a micro-operation writes the backlight register (R95). -/
def MicroOp.setsBacklight : MicroOp → Bool
  | .setReg (.bl _) => true
  | _ => false

/-- The state a micro-operation enters, if it is an ENTER (R94). -/
def MicroOp.entered : MicroOp → Option Phase
  | .enter p => some p
  | _ => none

/-- An event with the register-select bit of its byte set (30_encoding.md R67). -/
def BusEvent.withRs : BusEvent → BusEvent
  | .xfer a b => .xfer a (b ||| 0x01)
  | .wait t => .wait t
  | .busInit => .busInit

/-- No SETREG of the backlight follows a transfer (20_memory.md R39). -/
def backlightFirst : List MicroOp → Bool
  | [] => true
  | .xfer _ :: rest => rest.all fun m => !m.setsBacklight
  | _ :: rest => backlightFirst rest

/-- The pulse guarantee on a trace (40_bus_strobe.md R112): each E-high byte is followed by a wait of at least T_EN, the
same byte with E low, and a wait of at least T_SETTLE. -/
def wellPulsed : List BusEvent → Bool
  | [] => true
  | .xfer a b :: rest =>
    if pinE b then
      match rest with
      | .wait t1 :: .xfer a' b' :: .wait t2 :: _ =>
        decide (1 ≤ t1) && a' == a && b' == (b &&& 0xFB) && decide (42 ≤ t2) && wellPulsed rest
      | _ => false
    else wellPulsed rest
  | .wait _ :: rest => wellPulsed rest
  | .busInit :: rest => wellPulsed rest

/-- A mirror register holds only the bits it uses (R16, R17). -/
def mirrorOk (r : MirrorReg) : Mirror → Bool
  | .unset => true
  | .value v => v &&& ~~~r.used == 0

/-- An event of this instance: a transfer goes to ADDR7 (R40) and never drives R/W high (R43). -/
def eventOk (addr : BitVec 7) : BusEvent → Bool
  | .xfer a b => a == addr && !pinRw b
  | _ => true

/-- The machine's invariant. -/
structure State.Inv (s : State) : Prop where
  /-- "`FN = FN_INIT` always" (R15). -/
  fn : s.fn = fnInit s.cfg
  /-- The RowOffsetTable is constant (R27, R60). -/
  rowoff : s.rowoff = rowOffsets s.cfg
  /-- CTL uses bits 2:0 (R16). -/
  ctl : mirrorOk .ctl s.ctl = true
  /-- EMS uses bits 1:0 (R17). -/
  ems : mirrorOk .ems s.ems = true
  /-- A running micro-program is in form, and UPC is inside it (R24, R25). -/
  running : s.busy = true → programOk s.prog = true ∧ s.upc.toNat < s.prog.length
  /-- An idle engine has no micro-program (R34, R100). -/
  idle : s.busy = false → s.prog = [] ∧ s.upc = 0
  /-- Only a running micro-operation can be stuck (R187). -/
  stuck : s.stuck ≠ none → s.busy = true
  /-- A faulted engine is quiescent (R181). -/
  faulted : s.faulted = true → s.busy = false
  /-- A fault is recorded, and nothing else is (R181). -/
  faultRec : s.faultRec.isSome = s.faulted
  /-- A refusal is recorded, and nothing else is (R183). -/
  refusals : s.refusals.isEmpty = !s.refused
  /-- An illegal configuration was refused (R185). -/
  config : configLegal s.cfg = false → s.refused = true
  /-- Every transfer went to ADDR7 with R/W low (R40, R43). -/
  trace : s.tr.all (eventOk s.cfg.addr7) = true

/-- `s` without the ghosts of the pins: their level, what they latched, and the count of free values. No engine step reads
these (R30, R41). -/
def State.erasePins (s : State) : State := { s with pins := 0, latches := [], freeCount := 0 }

/-- `s` without all that is only observed: the ghosts of the pins, and SYNC (R29). -/
def State.eraseGhosts (s : State) : State := { s.erasePins with sync := false }

/-- An outcome with its next state changed by `f`. -/
def mapNext (f : State → State) : Host.Outcome State Fault Refusal → Host.Outcome State Fault Refusal
  | .next s => .next (f s)
  | .fault r => .fault r
  | .refused r => .refused r

/-- The ten mirror toggles with the register each modifies (43_mirror_toggles.md R146 to R155). -/
def toggleRegister : Instr → Option MirrorReg
  | .displayOff _ _ => some .ctl
  | .displayOn _ _ => some .ctl
  | .cursorOff _ _ => some .ctl
  | .cursorOn _ _ => some .ctl
  | .blinkOff _ _ => some .ctl
  | .blinkOn _ _ => some .ctl
  | .leftToRight _ _ => some .ems
  | .rightToLeft _ _ => some .ems
  | .autoscrollOn _ _ => some .ems
  | .autoscrollOff _ _ => some .ems
  | _ => none

/-- The reserved words' constructors (30_encoding.md R75). -/
def isReserved : Instr → Bool
  | .reservedOp27 _ _ _ => true
  | .reservedOp28To31 _ _ _ _ => true
  | .reservedRsv _ _ _ _ => true
  | _ => false

end Sys2Proof.Machine
end

