-- ==== Sys2Proof/Certificates/Slice0/Obligations.lean ====
section
/-! DEFINITION. The statements about the engine, each from the rules of spec/ its docstring names. Completed requests are
stated as whole states: `RunsTo i s n u` says that `exec` accepts `i` in `s` with a next state and that the micro-program it
loads reaches DONE after `n` micro-operations in `u`, and `u` is written as `s` with the changed fields, which is also the
instruction's frame. -/

open Sys2Proof Sys2Proof.Machine

/-! ## Steps and acceptance -/

/-- R70, R101: with the engine idle, a step samples the request the host presents and is `exec` of the instruction it
decodes to, in the state with the request taken and the completion pulse over. R200: with none presented the engine waits:
nothing changes but that the pulse is over (log entries 3, 4 and 17). -/
def Obligations.StepRunsDecodedRequest : Prop :=
  (∀ (s : State) (r : Request) (rest : List Request) (i : Instr), s.Ready → s.stuck = none → s.host = r :: rest →
    decode (.req r.word r.glyph) = .ok i →
    (s.env = [] → step s = exec i { s with host := rest, rspDone := false }) ∧
    (∀ d es, s.env = .answer d :: es → step s = exec i { s with host := rest, rspDone := false, env := es })) ∧
  (∀ s : State, s.Ready → s.stuck = none → s.host = [] →
    (s.env = [] → step s = .next { s with rspDone := false }) ∧
    (∀ d es, s.env = .answer d :: es → step s = .next { s with rspDone := false, env := es }))

/-- R25: with BUSY = 1 a step performs the micro-operation PROG[UPC] with the environment's answer; with one other than
DONE that is answered, UPC moves to the next one of the same program. -/
def Obligations.StepPerformsMicroOperation : Prop :=
  ∀ (s : State) (m : MicroOp), s.Running → s.prog[s.upc.toNat]? = some m →
    (s.env = [] → step s = .next (s.perform .ack m)) ∧
    (∀ d es, s.env = .answer d :: es → step s = .next ({ s with env := es }.perform d m)) ∧
    (m.isDone = false → (s.perform .ack m).upc = s.upc + 1 ∧ (s.perform .ack m).prog = s.prog ∧
      (s.perform .ack m).busy = true)

/-- R101, R193: acceptance either loads a micro-program, or records one fault, or records one refusal; it emits no event
and changes no other register. -/
def Obligations.AcceptanceFrame : Prop :=
  ∀ (i : Instr) (s : State), s.Ready →
    (∃ p, exec i s = .next { s with prog := p, upc := 0, busy := true }) ∨
    (∃ w, exec i s = .next { s with faulted := true, faultRec := some ⟨.mirrorUnset, w⟩ }) ∨
    (∃ w, exec i s = .next { s with refused := true, refusals := s.refusals ++ [⟨.reservedEncoding, some w⟩] })

/-- R104: `expand` faults exactly for the ten mirror toggles with the mirror they modify UNSET; then no micro-program is
built, BUSY stays 0 and no event is emitted. -/
def Obligations.OnlyTogglesOfUnsetMirrorFault : Prop :=
  ∀ (i : Instr) (s t : State), s.Ready → exec i s = .next t →
    (t.faulted = true ↔ ∃ r, toggleRegister i = some r ∧ s.mirror r = .unset) ∧
    (t.faulted = true → t.busy = false ∧ t.prog = s.prog ∧ t.tr = s.tr)

/-- R186: while BUSY = 1 a request waits: nothing changes in the engine by presenting it, and a step takes no request
from the host. -/
def Obligations.BusyHoldsHost : Prop :=
  (∀ (i : Instr) (s : State), configLegal s.cfg = true → s.faulted = false → s.busy = true → exec i s = .next s) ∧
  (∀ s t : State, s.busy = true → step s = .next t → t.host = s.host)

/-- R58: what the host presents later cannot change a micro-program already accepted. -/
def Obligations.RequestSampledOnce : Prop :=
  ∀ (s : State) (q : List Request), s.busy = true →
    mapNext (fun t => { t with host := [] }) (step { s with host := q }) =
      mapNext (fun t => { t with host := [] }) (step s)

/-- R114, R180: an engine with a legal configuration that is neither faulted nor stuck always has a step. -/
def Obligations.WorkingEngineAlwaysSteps : Prop :=
  ∀ s : State, s.Inv → configLegal s.cfg = true → s.faulted = false → s.stuck = none → ∃ t, step s = .next t

/-! ## Faults, refusals, stuck states -/

/-- R181: a faulted engine accepts no request and takes no step of its own. -/
def Obligations.FaultedEngineStops : Prop :=
  ∀ s : State, configLegal s.cfg = true → s.faulted = true →
    (∀ i, exec i s = .fault .engineFaulted) ∧ (s.env = [] → step s = .fault .engineFaulted) ∧
    (∀ d es, s.env = .answer d :: es → step s = .fault .engineFaulted)

/-- R183, R185: a configuration with ROWS outside 1..4 is refused at construction, and no request of it is ever accepted;
every other configuration is not refused. That each step of such an engine, a request presented or not, answers the refusal
badConfig is the model's choice (log entry 9). -/
def Obligations.IllegalRowsRefused : Prop :=
  (∀ c : Config, (c.rows.toNat = 0 ∨ 4 < c.rows.toNat) →
    (State.powerOn c).refused = true ∧ (State.powerOn c).refusals = [⟨.badConfig, none⟩] ∧
    (∀ (i : Instr) (s : State), s.cfg = c → exec i s = .refused .badConfig) ∧
    (∀ s : State, s.cfg = c → s.env = [] → step s = .refused .badConfig)) ∧
  (∀ c : Config, 1 ≤ c.rows.toNat → c.rows.toNat ≤ 4 →
    (State.powerOn c).refused = false ∧ (State.powerOn c).refusals = [])

/-- R75, R183, R184: a reserved word sets REFUSED, records the reason and the word, and changes nothing else. -/
def Obligations.ReservedWordsRefused : Prop :=
  ∀ (i : Instr) (s : State), isReserved i = true → s.Ready →
    ∃ w, encode i = .req w 0 ∧
      exec i s = .next { s with refused := true, refusals := s.refusals ++ [⟨.reservedEncoding, some w⟩] }

/-- R42, R187: a transfer, a bus initialisation or a wait that never completes has emitted its event, leaves UPC and BUSY
as they are, and the engine has no step after it but a reset. -/
def Obligations.NeverCompletedIsStuck : Prop :=
  ∀ (s : State) (es : List EnvEvent) (m : MicroOp) (e : BusEvent) (f : Fault), s.Running →
    s.prog[s.upc.toNat]? = some m → s.env = .answer .hang :: es →
    ((∃ v, m = .xfer v ∧ e = .xfer s.cfg.addr7 (v ||| blBits s.bl)) ∧ f = .transportStuck ∨
      m = .busInit ∧ e = .busInit ∧ f = .transportStuck ∨ (∃ t, m = .wait t ∧ e = .wait t) ∧ f = .timerStuck) →
    ∃ t, step s = .next t ∧ t.tr = s.tr ++ [e] ∧ t.busy = true ∧ t.upc = s.upc ∧ t.prog = s.prog ∧ t.env = es ∧
      (es = [] → step t = .fault f) ∧ (∀ rest, es = .rst :: rest → ∃ u, step t = .next u ∧ u.stuck = none)

/-! ## Resets -/

/-- R34, R200: an instance right after power-on. -/
def Obligations.PowerOnState : Prop :=
  ∀ c : Config, configLegal c = true →
    let s := State.powerOn c
    s.fn = fnInit c ∧ s.ctl = .unset ∧ s.ems = .unset ∧ s.bl = c.blReset ∧ s.oled = false ∧
    s.phase = .poweredUnknown ∧ s.busy = false ∧ s.prog = [] ∧ s.upc = 0 ∧ s.rsp = 0 ∧
    s.rowoff = ⟨0x00, 0x40, c.cols, 0x40 + c.cols⟩ ∧ s.sync = false ∧ s.last = c.lastReset ∧ s.faulted = false ∧
    s.refused = false ∧ s.tr = []

/-- R8: the values computed from a legal configuration: FN_INIT (the N bit when ROWS > 1, the F bit only for 5x10 with
ROWS = 1), the row offsets and the clamp bound. -/
def Obligations.ConfigurationValues : Prop :=
  ∀ c : Config, configLegal c = true →
    (1 < c.rows.toNat → fnInit c = 0x08) ∧ (c.rows = 1 → c.dots = .d5x8 → fnInit c = 0x00) ∧
    (c.rows = 1 → c.dots = .d5x10 → fnInit c = 0x04) ∧
    rowOffsets c = ⟨0x00, 0x40, c.cols, 0x40 + c.cols⟩ ∧ (rowsEff c).toNat = min c.rows.toNat 4

/-- R190, R192, R200: `rst` wins over the engine's step, also while BUSY = 1 and with a request presented; it loads the
values of R34, keeps TR, FAULTED, REFUSED and LAST, and emits no event. That it ends the completion pulse (log entry 17) and
a stuck state (log entry 13), and leaves the host's and the environment's lists and the ghosts of the pins (log entry 22),
is the model's reading. -/
def Obligations.EngineResetLoadsResetState : Prop :=
  ∀ (s : State) (es : List EnvEvent), s.env = .rst :: es →
    step s = .next
      { s with
        env := es, fn := fnInit s.cfg, ctl := .unset, ems := .unset, bl := s.cfg.blReset, oled := false
        phase := .poweredUnknown, busy := false, prog := [], upc := 0, rsp := 0, rowoff := rowOffsets s.cfg
        sync := false, rspDone := false, stuck := none }

/-- R189: `ctrl_reset` sets SYNC to 0 and changes no engine register, whatever the engine is doing. -/
def Obligations.ControllerResetClearsSyncOnly : Prop :=
  ∀ (s : State) (es : List EnvEvent), s.env = .ctrlReset :: es → step s = .next { s with env := es, sync := false }

/-! ## Micro-operations -/

/-- R94, R95, R96: ENTER, SETREG and SYNC write one register and advance UPC; they emit nothing. That the completion pulse
(R70) is over after the step is the model's choice (log entry 17). -/
def Obligations.RegisterMicroOperations : Prop :=
  ∀ s : State, s.Running → s.env = [] →
    (∀ p, s.prog[s.upc.toNat]? = some (.enter p) →
      step s = .next { s with phase := p, upc := s.upc + 1, rspDone := false }) ∧
    (∀ v, s.prog[s.upc.toNat]? = some (.setReg (.ctl v)) →
      step s = .next { s with ctl := .value v, upc := s.upc + 1, rspDone := false }) ∧
    (∀ v, s.prog[s.upc.toNat]? = some (.setReg (.ems v)) →
      step s = .next { s with ems := .value v, upc := s.upc + 1, rspDone := false }) ∧
    (∀ v, s.prog[s.upc.toNat]? = some (.setReg (.bl v)) →
      step s = .next { s with bl := v, upc := s.upc + 1, rspDone := false }) ∧
    (∀ v, s.prog[s.upc.toNat]? = some (.setReg (.oled v)) →
      step s = .next { s with oled := v, upc := s.upc + 1, rspDone := false }) ∧
    (∀ f, s.prog[s.upc.toNat]? = some (.sync f) →
      step s = .next { s with sync := f, upc := s.upc + 1, rspDone := false })

/-- R97, R99: BUSINIT and WAIT(t), answered, emit their one event and write no register. -/
def Obligations.BusInitAndWaitEmit : Prop :=
  ∀ s : State, s.Running → s.env = [] →
    (s.prog[s.upc.toNat]? = some .busInit →
      step s = .next { s with tr := s.tr ++ [.busInit], upc := s.upc + 1, rspDone := false }) ∧
    (∀ t, s.prog[s.upc.toNat]? = some (.wait t) →
      step s = .next { s with tr := s.tr ++ [.wait t], upc := s.upc + 1, rspDone := false })

/-- R38, R61, R98: XFER(v), acknowledged, emits `v` with the backlight bit ORed in, to ADDR7, and writes LAST; a nibble is
latched when the transfer changes E from 1 to 0: bits 7:4 of the byte, with RS its bit 0. -/
def Obligations.TransferOrsBacklight : Prop :=
  ∀ (s : State) (v b : Byte), s.Running → s.env = [] → s.prog[s.upc.toNat]? = some (.xfer v) →
    b = (if s.bl then v ||| 0x08 else v) →
    step s = .next
      { s with
        tr := s.tr ++ [.xfer s.cfg.addr7 b], last := b, upc := s.upc + 1, rspDone := false, pins := b
        latches := if s.pins.getLsbD 2 = true ∧ b.getLsbD 2 = false then
            s.latches ++ [⟨b.extractLsb' 4 4, b.getLsbD 0, s.sync, s.phase⟩]
          else s.latches }

/-- R100: DONE(r) writes RSP, clears BUSY, PROG and UPC, and raises the completion pulse; nothing else changes. -/
def Obligations.DoneEndsRequest : Prop :=
  ∀ (s : State) (r : Byte), s.Running → s.env = [] → s.prog[s.upc.toNat]? = some (.done r) →
    step s = .next { s with rsp := r, busy := false, prog := [], upc := 0, rspDone := true }

/-- R41, R188: a transfer that is not acknowledged counts as performed: its event is emitted, LAST is written and UPC
advances. What the pins then show is unknown (log entry 12: a free value, whatever it is). -/
def Obligations.FailedTransferCountsAsPerformed : Prop :=
  ∀ (s : State) (es : List EnvEvent) (v : Byte), s.Running → s.env = .answer .nak :: es →
    s.prog[s.upc.toNat]? = some (.xfer v) →
    ∃ ls, step s = .next
      { s with
        env := es, tr := s.tr ++ [.xfer s.cfg.addr7 (v ||| blBits s.bl)], last := v ||| blBits s.bl
        upc := s.upc + 1, rspDone := false, pins := Config.freePins s.freeCount, freeCount := s.freeCount + 1
        latches := s.latches ++ ls }

/-- R41, R188: the acknowledge changes no engine register, SYNC among them, and no event, at any step: only the ghosts of
the pins can differ (log entry 12). -/
def Obligations.AcknowledgeIgnored : Prop :=
  ∀ (s : State) (es : List EnvEvent),
    mapNext State.erasePins (step { s with env := .answer .nak :: es }) =
      mapNext State.erasePins (step { s with env := .answer .ack :: es })

/-- R29, R30, R96: SYNC, and the model's ghosts of the pins (log entries 12 and 14), have no effect on anything else: two
states that agree but for them step to states that agree but for them, or stop alike. -/
def Obligations.GhostsNeverMatter : Prop :=
  ∀ s s' : State, s.eraseGhosts = s'.eraseGhosts →
    mapNext State.eraseGhosts (step s) = mapNext State.eraseGhosts (step s')

/-! ## Requests, run to their DONE -/

/-- R119, R118, R110: COMMAND sends its byte with RS = 0, unchecked, with no further wait, and answers 0; no other
register changes. -/
def Obligations.CommandSendsByte : Prop :=
  ∀ (s : State) (a b : Byte), s.Ready → s.Undisturbed →
    encode (.command a b) = .req (reqWord 0b00001 0 a b) 0 ∧
    ∃ ls, RunsTo (.command a b) s 11
      (s.answered (sendEvents s.cfg.addr7 s.bl a false) (sendLast s.bl a false) ls 0)

/-- R120, R118, R110: WRITE sends its byte with RS = 1 and answers 1; no other register changes. -/
def Obligations.WriteSendsByteAnswersOne : Prop :=
  ∀ (s : State) (a b : Byte), s.Ready → s.Undisturbed →
    encode (.write a b) = .req (reqWord 0b00010 0 a b) 0 ∧
    ∃ ls, RunsTo (.write a b) s 11
      (s.answered (sendEvents s.cfg.addr7 s.bl a true) (sendLast s.bl a true) ls 1)

/-- R124: for equal A, COMMAND and WRITE differ only in the mode tag and the response: WRITE ends in the state COMMAND ends
in, but for RSP, 1 and 0, for bit 0 of each transferred byte, in TR, in LAST and on the pins, and for the RS of what was
latched. (The pins and latches are the model's ghosts, log entries 12 and 14.) -/
def Obligations.CommandAndWriteDifferInRsOnly : Prop :=
  ∀ (s u v : State) (a b : Byte), s.Ready → s.Undisturbed → RunsTo (.command a b) s 11 u → RunsTo (.write a b) s 11 v →
    u.rsp = 0 ∧
    ∃ es ls, u.tr = s.tr ++ es ∧ u.latches = s.latches ++ ls ∧
      v =
        { u with
          rsp := 1, tr := s.tr ++ es.map BusEvent.withRs, last := u.last ||| 0x01, pins := u.pins ||| 0x01
          latches := s.latches ++ ls.map fun l => { l with rs := true } }

/-- R61, R62, R64, R122: from E low, COMMAND and WRITE latch exactly two nibbles, `b[7:4]` and then `b[3:0]`, both with the
mode's RS, and these pair to the byte sent; with SYNC = 1 and NS in whole pairs the decoded stream grows by that byte. -/
def Obligations.SentByteDecodesBack : Prop :=
  ∀ (s : State) (a b : Byte), s.Ready → s.Undisturbed → s.pins.getLsbD 2 = false →
    ∀ (i : Instr) (m : Bool), (i, m) ∈ [(Instr.command a b, false), (.write a b, true)] →
      ∃ u ls, RunsTo i s 11 u ∧ u.latches = s.latches ++ ls ∧
        ls.map (fun l => (l.nibble, l.rs)) = [(a.extractLsb' 4 4, m), (a.extractLsb' 0 4, m)] ∧
        pairNibbles (ls.map fun l => (l.nibble, l.rs)) = [(m, a)] ∧
        (s.sync = true → (syncNibbles s.latches).length % 2 = 0 →
          decodedStream u.latches = decodedStream s.latches ++ [(m, a)])

/-- R144, R146 to R151, R182: with CTL holding `x`, each display-control toggle ends with its one bit set or cleared in
CTL and the whole byte `0x08 | CTL` sent, and no other register changes; with CTL UNSET it faults, recording its word. -/
def Obligations.DisplayTogglesRewriteCtl : Prop :=
  ∀ (s : State) (a b : Byte), s.Ready → s.Undisturbed →
    ∀ (i : Instr) (op : BitVec 5) (f : Byte → Byte),
      (i, op, f) ∈ [(Instr.displayOff a b, (0b00110 : BitVec 5), fun x : Byte => x &&& 0xFB),
        (.displayOn a b, 0b00111, fun x => x ||| 0x04), (.cursorOff a b, 0b01000, fun x => x &&& 0xFD),
        (.cursorOn a b, 0b01001, fun x => x ||| 0x02), (.blinkOff a b, 0b01010, fun x => x &&& 0xFE),
        (.blinkOn a b, 0b01011, fun x => x ||| 0x01)] →
      encode i = .req (reqWord op 0 a b) 0 ∧
      (∀ x, s.ctl = .value x → ∃ ls, RunsTo i s 12
        { s.answered (sendEvents s.cfg.addr7 s.bl (0x08 ||| f x) false) (sendLast s.bl (0x08 ||| f x) false) ls 0 with
          ctl := .value (f x) }) ∧
      (s.ctl = .unset → exec i s = .next
        { s with faulted := true, faultRec := some ⟨.mirrorUnset, reqWord op 0 a b⟩ })

/-- R144, R152 to R155, R182: the same for the entry-mode toggles, EMS and `0x04 | EMS`. -/
def Obligations.EntryTogglesRewriteEms : Prop :=
  ∀ (s : State) (a b : Byte), s.Ready → s.Undisturbed →
    ∀ (i : Instr) (op : BitVec 5) (f : Byte → Byte),
      (i, op, f) ∈ [(Instr.leftToRight a b, (0b01110 : BitVec 5), fun x : Byte => x ||| 0x02),
        (.rightToLeft a b, 0b01111, fun x => x &&& 0xFD), (.autoscrollOn a b, 0b10000, fun x => x ||| 0x01),
        (.autoscrollOff a b, 0b10001, fun x => x &&& 0xFE)] →
      encode i = .req (reqWord op 0 a b) 0 ∧
      (∀ x, s.ems = .value x → ∃ ls, RunsTo i s 12
        { s.answered (sendEvents s.cfg.addr7 s.bl (0x04 ||| f x) false) (sendLast s.bl (0x04 ||| f x) false) ls 0 with
          ems := .value (f x) }) ∧
      (s.ems = .unset → exec i s = .next
        { s with faulted := true, faultRec := some ⟨.mirrorUnset, reqWord op 0 a b⟩ })

/-- R156, R157: the scrolls send 0x18 and 0x1C and read and write no mirror register, UNSET or not. -/
def Obligations.ScrollsAreStateless : Prop :=
  ∀ (s : State) (a b : Byte), s.Ready → s.Undisturbed →
    encode (.scrollLeft a b) = .req (reqWord 0b01100 0 a b) 0 ∧
    encode (.scrollRight a b) = .req (reqWord 0b01101 0 a b) 0 ∧
    (∃ ls, RunsTo (.scrollLeft a b) s 11
      (s.answered (sendEvents s.cfg.addr7 s.bl 0x18 false) (sendLast s.bl 0x18 false) ls 0)) ∧
    (∃ ls, RunsTo (.scrollRight a b) s 11
      (s.answered (sendEvents s.cfg.addr7 s.bl 0x1C false) (sendLast s.bl 0x1C false) ls 0))

/-- R158, R159: the backlight requests write BL and force one raw transfer, 0x00 or 0x08; from E low they latch
nothing. -/
def Obligations.BacklightForcesOneTransfer : Prop :=
  ∀ (s : State) (a b : Byte), s.Ready → s.Undisturbed →
    ∀ (i : Instr) (op : BitVec 5) (v : Bool) (x : Byte),
      (i, op, v, x) ∈ [(Instr.backlightOff a b, (0b10010 : BitVec 5), false, (0x00 : Byte)),
        (.backlightOn a b, 0b10011, true, 0x08)] →
      encode i = .req (reqWord op 0 a b) 0 ∧
      ∃ ls, RunsTo i s 3 { s.answered [.xfer s.cfg.addr7 x] x ls 0 with bl := v } ∧
        (s.pins.getLsbD 2 = false → ls = [])

/-- R161: CLEAR sends 0x01 and waits 2000 µs; with OLED = 1 it then sends 0x80. The mirror is unchanged. -/
def Obligations.ClearWaitsThenRepositionsOled : Prop :=
  ∀ (s : State) (a b : Byte), s.Ready → s.Undisturbed → s.rowoff = rowOffsets s.cfg →
    encode (.clear a b) = .req (reqWord 0b00011 0 a b) 0 ∧
    (s.oled = false → ∃ ls, RunsTo (.clear a b) s 12
      (s.answered (sendEvents s.cfg.addr7 s.bl 0x01 false ++ [.wait 2000]) (sendLast s.bl 0x01 false) ls 0)) ∧
    (s.oled = true → ∃ ls, RunsTo (.clear a b) s 22
      (s.answered (sendEvents s.cfg.addr7 s.bl 0x01 false ++ [.wait 2000] ++ sendEvents s.cfg.addr7 s.bl 0x80 false)
        (sendLast s.bl 0x80 false) ls 0))

/-- R162: HOME sends 0x02 and waits 2000 µs, whatever OLED is. -/
def Obligations.HomeWaits : Prop :=
  ∀ (s : State) (a b : Byte), s.Ready → s.Undisturbed →
    encode (.home a b) = .req (reqWord 0b00100 0 a b) 0 ∧
    ∃ ls, RunsTo (.home a b) s 12
      (s.answered (sendEvents s.cfg.addr7 s.bl 0x02 false ++ [.wait 2000]) (sendLast s.bl 0x02 false) ls 0)

/-- R163, R164: SET_CURSOR sends `0x80 | ((ROWOFF[r] + col) mod 128)` with the row clamped to the configured rows and the
column as it is. -/
def Obligations.SetCursorSendsClampedAddress : Prop :=
  ∀ (s : State) (col row c : Byte), s.Ready → s.Undisturbed → s.rowoff = rowOffsets s.cfg →
    c.toNat = cursorByte s.cfg col row →
    encode (.setCursor col row) = .req (reqWord 0b00101 0 col row) 0 ∧
    ∃ ls, RunsTo (.setCursor col row) s 11
      (s.answered (sendEvents s.cfg.addr7 s.bl c false) (sendLast s.bl c false) ls 0)

/-- R163, R165, V-SRC-4: a row at or past the configured rows acts as the last row, and a column acts modulo 128. -/
def Obligations.CursorClampsRowWrapsColumn : Prop :=
  ∀ (s : State) (col row : Byte), s.Ready →
    (s.cfg.rows.toNat ≤ row.toNat → exec (.setCursor col row) s = exec (.setCursor col (s.cfg.rows - 1)) s) ∧
    exec (.setCursor (col + 0x80) row) s = exec (.setCursor col row) s

/-- R166, R167: CREATE_CHAR sends `0x40 | (slot mod 8) * 8` with RS = 0, then the eight glyph rows, row 0 first, whole,
with RS = 1. -/
def Obligations.CreateCharSendsSlotAndRows : Prop :=
  ∀ (s : State) (a b c : Byte) (g : Glyph), s.Ready → s.Undisturbed → c.toNat = 0x40 + a.toNat % 8 * 8 →
    encode (.createChar a b g) = .req (reqWord 0b10100 0 a b) g ∧
    ∃ ls, RunsTo (.createChar a b g) s 91
      (s.answered
        (sendEvents s.cfg.addr7 s.bl c false ++ sendEvents s.cfg.addr7 s.bl (g.extractLsb' 0 8) true ++
          sendEvents s.cfg.addr7 s.bl (g.extractLsb' 8 8) true ++ sendEvents s.cfg.addr7 s.bl (g.extractLsb' 16 8) true ++
          sendEvents s.cfg.addr7 s.bl (g.extractLsb' 24 8) true ++ sendEvents s.cfg.addr7 s.bl (g.extractLsb' 32 8) true ++
          sendEvents s.cfg.addr7 s.bl (g.extractLsb' 40 8) true ++ sendEvents s.cfg.addr7 s.bl (g.extractLsb' 48 8) true ++
          sendEvents s.cfg.addr7 s.bl (g.extractLsb' 56 8) true)
        (sendLast s.bl (g.extractLsb' 56 8) true) ls 0)

/-- R169: SET_OLED writes `A[0]` to OLED and emits nothing. -/
def Obligations.SetOledWritesFlag : Prop :=
  ∀ (s : State) (a b : Byte), s.Ready → s.Undisturbed →
    encode (.setOled a b) = .req (reqWord 0b10101 0 a b) 0 ∧
    RunsTo (.setOled a b) s 2
      { s with oled := a.getLsbD 0, rsp := 0, rspDone := true, busy := false, prog := [], upc := 0 }

/-- R171 to R176, R178: each stub answers 0 and changes no other register, and the trace not at all. -/
def Obligations.StubsOnlyAnswerZero : Prop :=
  ∀ (s : State) (a b : Byte) (i : Instr) (op : BitVec 5), s.Ready → s.Undisturbed →
    (i, op) ∈ [(Instr.stubContrast a b, (0b10110 : BitVec 5)), (.stubBargraph a b, 0b10111), (.stubKeypad a b, 0b11000),
      (.stubStatus a b, 0b11001), (.stubDelay a b, 0b11010)] →
    encode i = .req (reqWord op 0 a b) 0 ∧
    RunsTo i s 1 { s with rsp := 0, rspDone := true, busy := false, prog := [], upc := 0 }

/-- R125: INIT, from any PHASE, SYNC and mirror: its whole trace, CTL = 0x04, EMS = 0x02, PHASE = 11, SYNC = 1, RSP = 0;
FN, BL, OLED and every other register as before. -/
def Obligations.InitRunsHandshake : Prop :=
  ∀ (s : State) (a b : Byte), s.Ready → s.Undisturbed → s.rowoff = rowOffsets s.cfg →
    encode (.init a b) = .req (reqWord 0b00000 0 a b) 0 ∧
    ∃ ls, RunsTo (.init a b) s (initLength s.oled) (s.initialised ls)

/-- R63, R64, R130, R134, V-SRC-8: the nibbles INIT latches decode to the handshake 3, 3, 3, 2 and then to function set,
0x0C, 0x01, 0x80 for an OLED variant, 0x06, 0x02, as one stream in that order; a start with E high latches one nibble 0
more, before the handshake. Where NS was in whole pairs the run's stream, whatever it held, grows by exactly this. -/
def Obligations.InitDecodesToSequence : Prop :=
  ∀ (s u : State) (a b : Byte), s.Ready → s.Undisturbed → s.rowoff = rowOffsets s.cfg → s.fn = fnInit s.cfg →
    RunsTo (.init a b) s (initLength s.oled) u →
    ∃ ls, u.latches = s.latches ++ (if s.pins.getLsbD 2 then [⟨0, false, false, .expanderReset⟩] else []) ++ ls ∧
      handshakeBytes ls = [(false, 0x30), (false, 0x30), (false, 0x30), (false, 0x20)] ∧
      decodedBytes ls = [(false, 0x20 ||| fnInit s.cfg), (false, 0x0C), (false, 0x01)] ++
        (if s.oled then [(false, 0x80)] else []) ++ [(false, 0x06), (false, 0x02)] ∧
      decodedStream ls = handshakeBytes ls ++ decodedBytes ls ∧
      ((syncNibbles s.latches).length % 2 = 0 →
        decodedStream u.latches = decodedStream s.latches ++ handshakeBytes ls ++ decodedBytes ls)

/-- R143: a second INIT emits the same events as the first and ends in the same engine state. -/
def Obligations.InitIsIdempotent : Prop :=
  ∀ (s u : State) (a b : Byte), s.Ready → s.Undisturbed → s.rowoff = rowOffsets s.cfg →
    RunsTo (.init a b) s (initLength s.oled) u →
    ∃ es ls, u.tr = s.tr ++ es ∧
      RunsTo (.init a b) u (initLength s.oled) { u with tr := u.tr ++ es, latches := u.latches ++ ls }

/-! ## The controller byte forms -/

/-- R76, R85, R119, R120: each command byte form runs as COMMAND of its byte, and DATA as WRITE of its byte (log entry
10: that the form stands for its passthrough is the model's choice). -/
def Obligations.ByteFormsSendTheirByte : Prop :=
  ∀ (s : State) (i : Instr) (c : Byte) (rs : Bool), s.Ready → s.Undisturbed → encode i = .byte rs c →
    exec i s = exec (if rs then .write c 0 else .command c 0) s ∧
    ∃ ls, RunsTo i s 11
      (s.answered (sendEvents s.cfg.addr7 s.bl c rs) (sendLast s.bl c rs) ls (if rs then 1 else 0))

/-- R86, R110: each handshake nibble is one strobe of 0x30 or 0x20 (log entry 11: the DONE that ends it when it stands
alone is the model's choice). -/
def Obligations.HandshakeNibblesStrobeOnce : Prop :=
  ∀ s : State, s.Ready → s.Undisturbed →
    (∃ ls, RunsTo .initNibble8Bit s 6
      (s.answered (strobeEvents s.cfg.addr7 s.bl 0x30) (0x30 ||| blBits s.bl) ls 0)) ∧
    (∃ ls, RunsTo .initNibble4Bit s 6
      (s.answered (strobeEvents s.cfg.addr7 s.bl 0x20) (0x20 ||| blBits s.bl) ls 0))

/-! ## Micro-programs and traces -/

/-- R10, R53, R114: every accepted request runs to its DONE, each of its micro-operations once, and the trace grows by
exactly the events of its micro-program in order. -/
def Obligations.AcceptedRequestRunsToDone : Prop :=
  ∀ (i : Instr) (s t : State), s.Ready → s.Undisturbed → exec i s = .next t → t.busy = true →
    ∃ u, Host.Core.run Sys2Proof.core t.prog.length t = .next u ∧ u.busy = false ∧ u.rspDone = true ∧
      u.tr = s.tr ++ busEvents s.cfg.addr7 s.bl t.prog ∧ u.host = s.host

/-- R112, R206: in the events of every accepted request, each E-high byte is followed by a wait of at least T_EN, the same
byte with E low, and a wait of at least T_SETTLE. -/
def Obligations.EveryRequestIsWellPulsed : Prop :=
  ∀ (i : Instr) (s t : State), s.Ready → exec i s = .next t → t.busy = true →
    wellPulsed (busEvents s.cfg.addr7 s.bl t.prog) = true

/-- R24, R38, R39, R100: every accepted micro-program has at most 127 micro-operations, one DONE at its end, R/W and the
backlight bit low in every value it transfers, and no backlight write after a transfer. -/
def Obligations.AcceptedProgramsInForm : Prop :=
  ∀ (i : Instr) (s t : State), s.Ready → s.Inv → exec i s = .next t → t.busy = true →
    programOk t.prog = true ∧ backlightFirst t.prog = true

/-- R39, R160: every byte of a request carries the backlight bit the request leaves: on after BACKLIGHT_ON, off after
BACKLIGHT_OFF, else BL as it is. -/
def Obligations.BacklightOnEveryByte : Prop :=
  ∀ (i : Instr) (s t : State) (addr : BitVec 7) (c : Byte), s.Ready → exec i s = .next t → t.busy = true →
    .xfer addr c ∈ busEvents s.cfg.addr7 s.bl t.prog →
    c.getLsbD 3 = (match i with
      | .backlightOn _ _ => true
      | .backlightOff _ _ => false
      | _ => s.bl)

/-- R22, R126: only INIT's micro-program enters PHASE states, and it enters all twelve in ascending order. -/
def Obligations.OnlyInitEntersPhases : Prop :=
  ∀ (i : Instr) (s t : State), s.Ready → exec i s = .next t → t.busy = true →
    (t.prog.filterMap MicroOp.entered).map Phase.code =
      (match i with
      | .init _ _ => [0, 1, 2, 3, 4, 5, 6, 7, 8, 9, 10, 11]
      | _ => [])

/-- R13, R22: in any step, PHASE, CTL, EMS, BL and OLED change only by `rst` or by the ENTER or SETREG at UPC that names
them. -/
def Obligations.RegistersChangeOnlyByTheirMicroOperation : Prop :=
  ∀ s t : State, step s = .next t → (∀ es, s.env ≠ .rst :: es) →
    (t.phase ≠ s.phase → s.prog[s.upc.toNat]? = some (.enter t.phase)) ∧
    (t.ctl ≠ s.ctl → ∃ v, t.ctl = .value v ∧ s.prog[s.upc.toNat]? = some (.setReg (.ctl v))) ∧
    (t.ems ≠ s.ems → ∃ v, t.ems = .value v ∧ s.prog[s.upc.toNat]? = some (.setReg (.ems v))) ∧
    (t.bl ≠ s.bl → s.prog[s.upc.toNat]? = some (.setReg (.bl t.bl))) ∧
    (t.oled ≠ s.oled → s.prog[s.upc.toNat]? = some (.setReg (.oled t.oled)))

/-- R26, R179: the DONE of WRITE, and of the DATA form it sends, answers 1, and every other one 0. -/
def Obligations.ResponseIsOneForWriteOnly : Prop :=
  ∀ (i : Instr) (s t : State) (r : Byte), s.Ready → exec i s = .next t → t.busy = true → .done r ∈ t.prog →
    r = (match i with
      | .write _ _ => 1
      | .data _ => 1
      | _ => 0)

/-- R142, R220: the number of transfers and the sum of the wait minima of each request; a toggle needs the mirror it
modifies to hold a value, and no other request asks anything of the mirror. -/
def Obligations.TransfersAndWaitSums : Prop :=
  ∀ (s : State) (a b : Byte) (g : Glyph), s.Ready →
    ∀ (i : Instr) (n w : Nat),
      (i, n, w) ∈ [(Instr.init a b, if s.oled then 49 else 43, if s.oled then 558998 else 558912),
        (.command a b, 6, 86), (.write a b, 6, 86), (.setCursor a b, 6, 86), (.scrollLeft a b, 6, 86),
        (.scrollRight a b, 6, 86), (.displayOff a b, 6, 86), (.displayOn a b, 6, 86), (.cursorOff a b, 6, 86),
        (.cursorOn a b, 6, 86), (.blinkOff a b, 6, 86), (.blinkOn a b, 6, 86), (.leftToRight a b, 6, 86),
        (.rightToLeft a b, 6, 86), (.autoscrollOn a b, 6, 86), (.autoscrollOff a b, 6, 86),
        (.clear a b, if s.oled then 12 else 6, if s.oled then 2172 else 2086), (.home a b, 6, 2086),
        (.createChar a b g, 54, 774), (.backlightOn a b, 1, 0), (.backlightOff a b, 1, 0), (.setOled a b, 0, 0),
        (.stubContrast a b, 0, 0), (.stubBargraph a b, 0, 0), (.stubKeypad a b, 0, 0), (.stubStatus a b, 0, 0),
        (.stubDelay a b, 0, 0)] →
      (∀ r, toggleRegister i = some r → s.mirror r ≠ .unset) →
      ∃ p, exec i s = .next { s with prog := p, upc := 0, busy := true } ∧ countXfers p = n ∧ waitSum p = w

/-- R113 (1): a request that starts with E low on the bus ends with E low on the bus. -/
def Obligations.EnableLowBetweenRequests : Prop :=
  ∀ (i : Instr) (s t u : State), s.Ready → s.Undisturbed → exec i s = .next t → t.busy = true →
    s.last.getLsbD 2 = false → Host.Core.run Sys2Proof.core t.prog.length t = .next u → u.last.getLsbD 2 = false

/-! ## Invariants -/

/-- R15, R16, R17, R24, R25, R27, R40, R43, R181, R183, R185: every step keeps the machine's invariant. -/
def Obligations.StepKeepsInvariant : Prop :=
  ∀ s t : State, s.Inv → step s = .next t → t.Inv

/-- Every instance right after power-on, with any configuration, meets the invariant; so does State.reset. -/
def Obligations.PowerOnMeetsInvariant : Prop :=
  (∀ c : Config, (State.powerOn c).Inv) ∧ State.reset.Inv

/-- R28, R31, R37, R53: no step changes the configuration (a field of State by log entry 1), clears FAULTED or REFUSED, or
removes an event from TR, and a step emits at most one event. -/
def Obligations.StickyBitsAndTraceOnlyGrow : Prop :=
  ∀ s t : State, step s = .next t →
    t.cfg = s.cfg ∧ (s.faulted = true → t.faulted = true) ∧ (s.refused = true → t.refused = true) ∧
    (t.tr = s.tr ∨ ∃ e, t.tr = s.tr ++ [e])

/-! ## Encodings -/

/-- R71 to R86: decoding the encoding of a well-formed instruction gives it back, with every operand at every value. -/
def Obligations.DecodeOfEncode : Prop := ∀ i : Instr, i.WellFormed → decode (encode i) = .ok i

/-- R89, R74: every request word decodes to a well-formed instruction that encodes to that word, so no bit is dropped; the
glyph payload is decoded for OP = 20 only. -/
def Obligations.EncodeOfDecodedRequest : Prop :=
  ∀ (w : ReqWord) (g : Glyph), (decodeReq w g).WellFormed ∧
    encode (decodeReq w g) = .req w (if opField w = 20 ∧ rsvField w = 0 then g else 0)

/-- R75, R89: a request word is reserved exactly when RSV ≠ 0 or OP is 27..31. -/
def Obligations.ReservedWordsDecode : Prop :=
  ∀ (w : ReqWord) (g : Glyph),
    isReserved (decodeReq w g) = true ↔ (w.toNat / 2 ^ 16 % 8 ≠ 0 ∨ 27 ≤ w.toNat / 2 ^ 19)

/-- R76, R88: a command byte other than 0x00 decodes to the form that encodes to it; 0x00 is no instruction. -/
def Obligations.CommandBytesDecode : Prop :=
  ∀ c : Byte, (c = 0 → decode (.byte false c) = .error .noCommand) ∧
    (c ≠ 0 → ∃ i, decode (.byte false c) = .ok i ∧ encode i = .byte false c)

/-- R73, R76, R91: words and bytes written out from the spec decode to the instructions they stand for. -/
def Obligations.SpecWordsDecode : Prop :=
  decodeTableWord 24 0x000000 = some (.init 0 0) ∧ decodeTableWord 24 0x104100 = some (.write 0x41 0) ∧
  decodeTableWord 24 0x280301 = some (.setCursor 3 1) ∧ decodeTableWord 24 0x480000 = some (.cursorOn 0 0) ∧
  decodeTableWord 24 0xA00900 = some (.createChar 9 0 0) ∧ decodeTableWord 24 0xB80307 = some (.stubBargraph 3 7) ∧
  decodeTableWord 24 0xD80000 = some (.reservedOp27 0 0 0) ∧ decodeTableWord 24 0x010000 = some (.reservedRsv 0 1 0 0) ∧
  decodeTableWord 8 0x28 = some (.functionSet 0 1 0 0) ∧ decodeTableWord 8 0x1C = some (.cursorShift 1 1 0)
end

