-- ==== Sys2Proof/Laws/BusView.lean ====
section
/-! SUPPORT. The decoded stream of the bus view: its bytes are the pairs of NS, its nibbles the handshake's, and it is read
piece by piece. -/

namespace Sys2Proof.Machine

/-- The entry of NS that waits for its partner after the latches `ls`, if any. -/
def unpaired : Option (BitVec 4 × Bool) → List Latch → Option (BitVec 4 × Bool)
  | first, [] => first
  | first, l :: rest =>
    if l.sync then
      match first with
      | none => unpaired (some (l.nibble, l.rs)) rest
      | some _ => unpaired none rest
    else unpaired first rest

/-- A byte of the stream, if the entry is one. -/
def spelledByte : Fetched → Option (Bool × Byte)
  | .byte rs b => some (rs, b)
  | .nibble _ => none
  | .req _ _ => none

/-- A handshake nibble of the stream as `(0, n << 4)`, if the entry is one. -/
def spelledNibble : Fetched → Option (Bool × Byte)
  | .nibble n => some (false, n ++ (0#4))
  | .byte _ _ => none
  | .req _ _ => none

theorem spelledFrom_append (p : Option (BitVec 4 × Bool)) (ls ls' : List Latch) :
    spelledFrom p (ls ++ ls') = spelledFrom p ls ++ spelledFrom (unpaired p ls) ls' := by
  induction ls generalizing p with
  | nil => rfl
  | cons l ls ih =>
    cases h : l.sync <;> cases hh : l.isHandshake <;> cases p <;> simp [spelledFrom, unpaired, h, hh, ih]

/-- A nibble waits exactly when NS, with the one that waited before, has odd length. -/
theorem unpaired_isSome (p : Option (BitVec 4 × Bool)) (ls : List Latch) :
    (unpaired p ls).isSome = decide ((p.toList.length + (syncNibbles ls).length) % 2 = 1) := by
  induction ls generalizing p with
  | nil => cases p <;> rfl
  | cons l ls ih =>
    cases h : l.sync <;> cases p <;> simp [unpaired, syncNibbles, h, ih] <;> omega

/-- The stream after latches whose NS is whole pairs goes on from its start. -/
theorem decodedStream_append {ls : List Latch} (h : (syncNibbles ls).length % 2 = 0) (ls' : List Latch) :
    decodedStream (ls ++ ls') = decodedStream ls ++ decodedStream ls' := by
  have hu : unpaired none ls = none := by
    have := unpaired_isSome none ls
    simpa [h] using this
  simp [decodedStream, spelled, spelledFrom_append, hu]

/-- The bytes of the stream are the pairs of NS, in order (R64). -/
theorem spelledFrom_bytes (p : Option (BitVec 4 × Bool)) (ls : List Latch) :
    (spelledFrom p ls).filterMap spelledByte = pairNibbles (p.toList ++ syncNibbles ls) := by
  induction ls generalizing p with
  | nil => rcases p with - | ⟨h, r⟩ <;> rfl
  | cons l ls ih =>
    cases h : l.sync <;> cases hh : l.isHandshake <;> rcases p with - | ⟨n, r⟩ <;>
      simp [spelledFrom, syncNibbles, h, hh, ih, spelledByte, pairNibbles, List.filterMap_cons]

theorem spelled_bytes (ls : List Latch) : (spelled ls).filterMap spelledByte = decodedBytes ls :=
  spelledFrom_bytes none ls

/-- The nibbles of the stream are the handshake's, in order (R63, R64). -/
theorem spelledFrom_nibbles (p : Option (BitVec 4 × Bool)) (ls : List Latch) :
    (spelledFrom p ls).filterMap spelledNibble = handshakeBytes ls := by
  induction ls generalizing p with
  | nil => cases p <;> rfl
  | cons l ls ih =>
    have hs : l.sync = true → l.isHandshake = false := by intro h; simp [Latch.isHandshake, h]
    cases h : l.sync <;> cases hh : l.isHandshake <;> rcases p with - | ⟨n, r⟩ <;>
      simp_all [spelledFrom, handshakeBytes, spelledNibble, List.filterMap_cons]

theorem spelled_nibbles (ls : List Latch) : (spelled ls).filterMap spelledNibble = handshakeBytes ls :=
  spelledFrom_nibbles none ls

end Sys2Proof.Machine
end

