-- ==== Sys2Proof/Laws/Encoding.lean ====
section
/-! SUPPORT. The fields of a request word, taken apart and put together. -/

namespace Sys2Proof

/-- A request word as a number (30_encoding.md R71). -/
theorem reqWord_toNat (op : BitVec 5) (rsv : BitVec 3) (a b : Byte) :
    (reqWord op rsv a b).toNat = op.toNat * 2 ^ 19 + rsv.toNat * 2 ^ 16 + a.toNat * 2 ^ 8 + b.toNat := by
  have h1 := rsv.isLt
  have h2 := a.isLt
  have h3 := b.isLt
  simp only [reqWord, BitVec.toNat_append]
  rw [← Nat.shiftLeft_add_eq_or_of_lt h1, ← Nat.shiftLeft_add_eq_or_of_lt h2, ← Nat.shiftLeft_add_eq_or_of_lt h3]
  simp only [Nat.shiftLeft_eq]
  omega

/-- OP of an encoded word. -/
@[simp] theorem opField_reqWord (op : BitVec 5) (rsv : BitVec 3) (a b : Byte) : opField (reqWord op rsv a b) = op := by
  apply BitVec.eq_of_toNat_eq
  have h0 := op.isLt
  have h1 := rsv.isLt
  have h2 := a.isLt
  have h3 := b.isLt
  simp only [opField, BitVec.extractLsb'_toNat, reqWord_toNat, Nat.shiftRight_eq_div_pow]
  omega

/-- RSV of an encoded word. -/
@[simp] theorem rsvField_reqWord (op : BitVec 5) (rsv : BitVec 3) (a b : Byte) : rsvField (reqWord op rsv a b) = rsv := by
  apply BitVec.eq_of_toNat_eq
  have h0 := op.isLt
  have h1 := rsv.isLt
  have h2 := a.isLt
  have h3 := b.isLt
  simp only [rsvField, BitVec.extractLsb'_toNat, reqWord_toNat, Nat.shiftRight_eq_div_pow]
  omega

/-- A of an encoded word. -/
@[simp] theorem aField_reqWord (op : BitVec 5) (rsv : BitVec 3) (a b : Byte) : aField (reqWord op rsv a b) = a := by
  apply BitVec.eq_of_toNat_eq
  have h0 := op.isLt
  have h1 := rsv.isLt
  have h2 := a.isLt
  have h3 := b.isLt
  simp only [aField, BitVec.extractLsb'_toNat, reqWord_toNat, Nat.shiftRight_eq_div_pow]
  omega

/-- B of an encoded word. -/
@[simp] theorem bField_reqWord (op : BitVec 5) (rsv : BitVec 3) (a b : Byte) : bField (reqWord op rsv a b) = b := by
  apply BitVec.eq_of_toNat_eq
  have h0 := op.isLt
  have h1 := rsv.isLt
  have h2 := a.isLt
  have h3 := b.isLt
  simp only [bField, BitVec.extractLsb'_toNat, reqWord_toNat, Nat.shiftRight_eq_div_pow]
  omega

/-- A word is put together again from its fields: they cover all 24 bits (R71). -/
@[simp] theorem reqWord_fields (w : ReqWord) : reqWord (opField w) (rsvField w) (aField w) (bField w) = w := by
  apply BitVec.eq_of_toNat_eq
  have := w.isLt
  simp only [reqWord_toNat, opField, rsvField, aField, bField, BitVec.extractLsb'_toNat, Nat.shiftRight_eq_div_pow]
  omega

end Sys2Proof
end

