-- ==== Sys2Proof/Laws/State.lean ====
section
/-! SUPPORT. What each named update of the state does to each field: one lemma per field per update, all true by
unfolding, so that no proof unfolds a record update. -/

namespace Sys2Proof.Machine

variable (s : State)

@[simp] theorem State.emit_fn (e : BusEvent) : (s.emit e).fn = s.fn := rfl
@[simp] theorem State.emit_ctl (e : BusEvent) : (s.emit e).ctl = s.ctl := rfl
@[simp] theorem State.emit_ems (e : BusEvent) : (s.emit e).ems = s.ems := rfl
@[simp] theorem State.emit_bl (e : BusEvent) : (s.emit e).bl = s.bl := rfl
@[simp] theorem State.emit_oled (e : BusEvent) : (s.emit e).oled = s.oled := rfl
@[simp] theorem State.emit_phase (e : BusEvent) : (s.emit e).phase = s.phase := rfl
@[simp] theorem State.emit_busy (e : BusEvent) : (s.emit e).busy = s.busy := rfl
@[simp] theorem State.emit_prog (e : BusEvent) : (s.emit e).prog = s.prog := rfl
@[simp] theorem State.emit_upc (e : BusEvent) : (s.emit e).upc = s.upc := rfl
@[simp] theorem State.emit_rsp (e : BusEvent) : (s.emit e).rsp = s.rsp := rfl
@[simp] theorem State.emit_rowoff (e : BusEvent) : (s.emit e).rowoff = s.rowoff := rfl
@[simp] theorem State.emit_sync (e : BusEvent) : (s.emit e).sync = s.sync := rfl
@[simp] theorem State.emit_last (e : BusEvent) : (s.emit e).last = s.last := rfl
@[simp] theorem State.emit_faulted (e : BusEvent) : (s.emit e).faulted = s.faulted := rfl
@[simp] theorem State.emit_refused (e : BusEvent) : (s.emit e).refused = s.refused := rfl
@[simp] theorem State.emit_tr (e : BusEvent) : (s.emit e).tr = s.tr ++ [e] := rfl
@[simp] theorem State.emit_faultRec (e : BusEvent) : (s.emit e).faultRec = s.faultRec := rfl
@[simp] theorem State.emit_refusals (e : BusEvent) : (s.emit e).refusals = s.refusals := rfl
@[simp] theorem State.emit_rspDone (e : BusEvent) : (s.emit e).rspDone = s.rspDone := rfl
@[simp] theorem State.emit_cfg (e : BusEvent) : (s.emit e).cfg = s.cfg := rfl
@[simp] theorem State.emit_stuck (e : BusEvent) : (s.emit e).stuck = s.stuck := rfl
@[simp] theorem State.emit_host (e : BusEvent) : (s.emit e).host = s.host := rfl
@[simp] theorem State.emit_env (e : BusEvent) : (s.emit e).env = s.env := rfl
@[simp] theorem State.emit_pins (e : BusEvent) : (s.emit e).pins = s.pins := rfl
@[simp] theorem State.emit_latches (e : BusEvent) : (s.emit e).latches = s.latches := rfl
@[simp] theorem State.emit_freeCount (e : BusEvent) : (s.emit e).freeCount = s.freeCount := rfl

@[simp] theorem State.advance_fn : (s.advance).fn = s.fn := rfl
@[simp] theorem State.advance_ctl : (s.advance).ctl = s.ctl := rfl
@[simp] theorem State.advance_ems : (s.advance).ems = s.ems := rfl
@[simp] theorem State.advance_bl : (s.advance).bl = s.bl := rfl
@[simp] theorem State.advance_oled : (s.advance).oled = s.oled := rfl
@[simp] theorem State.advance_phase : (s.advance).phase = s.phase := rfl
@[simp] theorem State.advance_busy : (s.advance).busy = s.busy := rfl
@[simp] theorem State.advance_prog : (s.advance).prog = s.prog := rfl
@[simp] theorem State.advance_upc : (s.advance).upc = s.upc + 1 := rfl
@[simp] theorem State.advance_rsp : (s.advance).rsp = s.rsp := rfl
@[simp] theorem State.advance_rowoff : (s.advance).rowoff = s.rowoff := rfl
@[simp] theorem State.advance_sync : (s.advance).sync = s.sync := rfl
@[simp] theorem State.advance_last : (s.advance).last = s.last := rfl
@[simp] theorem State.advance_faulted : (s.advance).faulted = s.faulted := rfl
@[simp] theorem State.advance_refused : (s.advance).refused = s.refused := rfl
@[simp] theorem State.advance_tr : (s.advance).tr = s.tr := rfl
@[simp] theorem State.advance_faultRec : (s.advance).faultRec = s.faultRec := rfl
@[simp] theorem State.advance_refusals : (s.advance).refusals = s.refusals := rfl
@[simp] theorem State.advance_rspDone : (s.advance).rspDone = s.rspDone := rfl
@[simp] theorem State.advance_cfg : (s.advance).cfg = s.cfg := rfl
@[simp] theorem State.advance_stuck : (s.advance).stuck = s.stuck := rfl
@[simp] theorem State.advance_host : (s.advance).host = s.host := rfl
@[simp] theorem State.advance_env : (s.advance).env = s.env := rfl
@[simp] theorem State.advance_pins : (s.advance).pins = s.pins := rfl
@[simp] theorem State.advance_latches : (s.advance).latches = s.latches := rfl
@[simp] theorem State.advance_freeCount : (s.advance).freeCount = s.freeCount := rfl

@[simp] theorem State.clearPulse_fn : (s.clearPulse).fn = s.fn := rfl
@[simp] theorem State.clearPulse_ctl : (s.clearPulse).ctl = s.ctl := rfl
@[simp] theorem State.clearPulse_ems : (s.clearPulse).ems = s.ems := rfl
@[simp] theorem State.clearPulse_bl : (s.clearPulse).bl = s.bl := rfl
@[simp] theorem State.clearPulse_oled : (s.clearPulse).oled = s.oled := rfl
@[simp] theorem State.clearPulse_phase : (s.clearPulse).phase = s.phase := rfl
@[simp] theorem State.clearPulse_busy : (s.clearPulse).busy = s.busy := rfl
@[simp] theorem State.clearPulse_prog : (s.clearPulse).prog = s.prog := rfl
@[simp] theorem State.clearPulse_upc : (s.clearPulse).upc = s.upc := rfl
@[simp] theorem State.clearPulse_rsp : (s.clearPulse).rsp = s.rsp := rfl
@[simp] theorem State.clearPulse_rowoff : (s.clearPulse).rowoff = s.rowoff := rfl
@[simp] theorem State.clearPulse_sync : (s.clearPulse).sync = s.sync := rfl
@[simp] theorem State.clearPulse_last : (s.clearPulse).last = s.last := rfl
@[simp] theorem State.clearPulse_faulted : (s.clearPulse).faulted = s.faulted := rfl
@[simp] theorem State.clearPulse_refused : (s.clearPulse).refused = s.refused := rfl
@[simp] theorem State.clearPulse_tr : (s.clearPulse).tr = s.tr := rfl
@[simp] theorem State.clearPulse_faultRec : (s.clearPulse).faultRec = s.faultRec := rfl
@[simp] theorem State.clearPulse_refusals : (s.clearPulse).refusals = s.refusals := rfl
@[simp] theorem State.clearPulse_rspDone : (s.clearPulse).rspDone = false := rfl
@[simp] theorem State.clearPulse_cfg : (s.clearPulse).cfg = s.cfg := rfl
@[simp] theorem State.clearPulse_stuck : (s.clearPulse).stuck = s.stuck := rfl
@[simp] theorem State.clearPulse_host : (s.clearPulse).host = s.host := rfl
@[simp] theorem State.clearPulse_env : (s.clearPulse).env = s.env := rfl
@[simp] theorem State.clearPulse_pins : (s.clearPulse).pins = s.pins := rfl
@[simp] theorem State.clearPulse_latches : (s.clearPulse).latches = s.latches := rfl
@[simp] theorem State.clearPulse_freeCount : (s.clearPulse).freeCount = s.freeCount := rfl

@[simp] theorem State.finish_fn (r : Byte) : (s.finish r).fn = s.fn := rfl
@[simp] theorem State.finish_ctl (r : Byte) : (s.finish r).ctl = s.ctl := rfl
@[simp] theorem State.finish_ems (r : Byte) : (s.finish r).ems = s.ems := rfl
@[simp] theorem State.finish_bl (r : Byte) : (s.finish r).bl = s.bl := rfl
@[simp] theorem State.finish_oled (r : Byte) : (s.finish r).oled = s.oled := rfl
@[simp] theorem State.finish_phase (r : Byte) : (s.finish r).phase = s.phase := rfl
@[simp] theorem State.finish_busy (r : Byte) : (s.finish r).busy = false := rfl
@[simp] theorem State.finish_prog (r : Byte) : (s.finish r).prog = [] := rfl
@[simp] theorem State.finish_upc (r : Byte) : (s.finish r).upc = 0 := rfl
@[simp] theorem State.finish_rsp (r : Byte) : (s.finish r).rsp = r := rfl
@[simp] theorem State.finish_rowoff (r : Byte) : (s.finish r).rowoff = s.rowoff := rfl
@[simp] theorem State.finish_sync (r : Byte) : (s.finish r).sync = s.sync := rfl
@[simp] theorem State.finish_last (r : Byte) : (s.finish r).last = s.last := rfl
@[simp] theorem State.finish_faulted (r : Byte) : (s.finish r).faulted = s.faulted := rfl
@[simp] theorem State.finish_refused (r : Byte) : (s.finish r).refused = s.refused := rfl
@[simp] theorem State.finish_tr (r : Byte) : (s.finish r).tr = s.tr := rfl
@[simp] theorem State.finish_faultRec (r : Byte) : (s.finish r).faultRec = s.faultRec := rfl
@[simp] theorem State.finish_refusals (r : Byte) : (s.finish r).refusals = s.refusals := rfl
@[simp] theorem State.finish_rspDone (r : Byte) : (s.finish r).rspDone = true := rfl
@[simp] theorem State.finish_cfg (r : Byte) : (s.finish r).cfg = s.cfg := rfl
@[simp] theorem State.finish_stuck (r : Byte) : (s.finish r).stuck = s.stuck := rfl
@[simp] theorem State.finish_host (r : Byte) : (s.finish r).host = s.host := rfl
@[simp] theorem State.finish_env (r : Byte) : (s.finish r).env = s.env := rfl
@[simp] theorem State.finish_pins (r : Byte) : (s.finish r).pins = s.pins := rfl
@[simp] theorem State.finish_latches (r : Byte) : (s.finish r).latches = s.latches := rfl
@[simp] theorem State.finish_freeCount (r : Byte) : (s.finish r).freeCount = s.freeCount := rfl

@[simp] theorem State.load_fn (p : List MicroOp) : (s.load p).fn = s.fn := rfl
@[simp] theorem State.load_ctl (p : List MicroOp) : (s.load p).ctl = s.ctl := rfl
@[simp] theorem State.load_ems (p : List MicroOp) : (s.load p).ems = s.ems := rfl
@[simp] theorem State.load_bl (p : List MicroOp) : (s.load p).bl = s.bl := rfl
@[simp] theorem State.load_oled (p : List MicroOp) : (s.load p).oled = s.oled := rfl
@[simp] theorem State.load_phase (p : List MicroOp) : (s.load p).phase = s.phase := rfl
@[simp] theorem State.load_busy (p : List MicroOp) : (s.load p).busy = true := rfl
@[simp] theorem State.load_prog (p : List MicroOp) : (s.load p).prog = p := rfl
@[simp] theorem State.load_upc (p : List MicroOp) : (s.load p).upc = 0 := rfl
@[simp] theorem State.load_rsp (p : List MicroOp) : (s.load p).rsp = s.rsp := rfl
@[simp] theorem State.load_rowoff (p : List MicroOp) : (s.load p).rowoff = s.rowoff := rfl
@[simp] theorem State.load_sync (p : List MicroOp) : (s.load p).sync = s.sync := rfl
@[simp] theorem State.load_last (p : List MicroOp) : (s.load p).last = s.last := rfl
@[simp] theorem State.load_faulted (p : List MicroOp) : (s.load p).faulted = s.faulted := rfl
@[simp] theorem State.load_refused (p : List MicroOp) : (s.load p).refused = s.refused := rfl
@[simp] theorem State.load_tr (p : List MicroOp) : (s.load p).tr = s.tr := rfl
@[simp] theorem State.load_faultRec (p : List MicroOp) : (s.load p).faultRec = s.faultRec := rfl
@[simp] theorem State.load_refusals (p : List MicroOp) : (s.load p).refusals = s.refusals := rfl
@[simp] theorem State.load_rspDone (p : List MicroOp) : (s.load p).rspDone = s.rspDone := rfl
@[simp] theorem State.load_cfg (p : List MicroOp) : (s.load p).cfg = s.cfg := rfl
@[simp] theorem State.load_stuck (p : List MicroOp) : (s.load p).stuck = s.stuck := rfl
@[simp] theorem State.load_host (p : List MicroOp) : (s.load p).host = s.host := rfl
@[simp] theorem State.load_env (p : List MicroOp) : (s.load p).env = s.env := rfl
@[simp] theorem State.load_pins (p : List MicroOp) : (s.load p).pins = s.pins := rfl
@[simp] theorem State.load_latches (p : List MicroOp) : (s.load p).latches = s.latches := rfl
@[simp] theorem State.load_freeCount (p : List MicroOp) : (s.load p).freeCount = s.freeCount := rfl

@[simp] theorem State.raiseFault_fn (q : FaultReason) (w : ReqWord) : (s.raiseFault q w).fn = s.fn := rfl
@[simp] theorem State.raiseFault_ctl (q : FaultReason) (w : ReqWord) : (s.raiseFault q w).ctl = s.ctl := rfl
@[simp] theorem State.raiseFault_ems (q : FaultReason) (w : ReqWord) : (s.raiseFault q w).ems = s.ems := rfl
@[simp] theorem State.raiseFault_bl (q : FaultReason) (w : ReqWord) : (s.raiseFault q w).bl = s.bl := rfl
@[simp] theorem State.raiseFault_oled (q : FaultReason) (w : ReqWord) : (s.raiseFault q w).oled = s.oled := rfl
@[simp] theorem State.raiseFault_phase (q : FaultReason) (w : ReqWord) : (s.raiseFault q w).phase = s.phase := rfl
@[simp] theorem State.raiseFault_busy (q : FaultReason) (w : ReqWord) : (s.raiseFault q w).busy = s.busy := rfl
@[simp] theorem State.raiseFault_prog (q : FaultReason) (w : ReqWord) : (s.raiseFault q w).prog = s.prog := rfl
@[simp] theorem State.raiseFault_upc (q : FaultReason) (w : ReqWord) : (s.raiseFault q w).upc = s.upc := rfl
@[simp] theorem State.raiseFault_rsp (q : FaultReason) (w : ReqWord) : (s.raiseFault q w).rsp = s.rsp := rfl
@[simp] theorem State.raiseFault_rowoff (q : FaultReason) (w : ReqWord) : (s.raiseFault q w).rowoff = s.rowoff := rfl
@[simp] theorem State.raiseFault_sync (q : FaultReason) (w : ReqWord) : (s.raiseFault q w).sync = s.sync := rfl
@[simp] theorem State.raiseFault_last (q : FaultReason) (w : ReqWord) : (s.raiseFault q w).last = s.last := rfl
@[simp] theorem State.raiseFault_faulted (q : FaultReason) (w : ReqWord) : (s.raiseFault q w).faulted = true := rfl
@[simp] theorem State.raiseFault_refused (q : FaultReason) (w : ReqWord) : (s.raiseFault q w).refused = s.refused := rfl
@[simp] theorem State.raiseFault_tr (q : FaultReason) (w : ReqWord) : (s.raiseFault q w).tr = s.tr := rfl
@[simp] theorem State.raiseFault_faultRec (q : FaultReason) (w : ReqWord) : (s.raiseFault q w).faultRec = some ⟨q, w⟩ := rfl
@[simp] theorem State.raiseFault_refusals (q : FaultReason) (w : ReqWord) : (s.raiseFault q w).refusals = s.refusals := rfl
@[simp] theorem State.raiseFault_rspDone (q : FaultReason) (w : ReqWord) : (s.raiseFault q w).rspDone = s.rspDone := rfl
@[simp] theorem State.raiseFault_cfg (q : FaultReason) (w : ReqWord) : (s.raiseFault q w).cfg = s.cfg := rfl
@[simp] theorem State.raiseFault_stuck (q : FaultReason) (w : ReqWord) : (s.raiseFault q w).stuck = s.stuck := rfl
@[simp] theorem State.raiseFault_host (q : FaultReason) (w : ReqWord) : (s.raiseFault q w).host = s.host := rfl
@[simp] theorem State.raiseFault_env (q : FaultReason) (w : ReqWord) : (s.raiseFault q w).env = s.env := rfl
@[simp] theorem State.raiseFault_pins (q : FaultReason) (w : ReqWord) : (s.raiseFault q w).pins = s.pins := rfl
@[simp] theorem State.raiseFault_latches (q : FaultReason) (w : ReqWord) : (s.raiseFault q w).latches = s.latches := rfl
@[simp] theorem State.raiseFault_freeCount (q : FaultReason) (w : ReqWord) : (s.raiseFault q w).freeCount = s.freeCount := rfl

@[simp] theorem State.refuse_fn (q : RefusalReason) (w : Option ReqWord) : (s.refuse q w).fn = s.fn := rfl
@[simp] theorem State.refuse_ctl (q : RefusalReason) (w : Option ReqWord) : (s.refuse q w).ctl = s.ctl := rfl
@[simp] theorem State.refuse_ems (q : RefusalReason) (w : Option ReqWord) : (s.refuse q w).ems = s.ems := rfl
@[simp] theorem State.refuse_bl (q : RefusalReason) (w : Option ReqWord) : (s.refuse q w).bl = s.bl := rfl
@[simp] theorem State.refuse_oled (q : RefusalReason) (w : Option ReqWord) : (s.refuse q w).oled = s.oled := rfl
@[simp] theorem State.refuse_phase (q : RefusalReason) (w : Option ReqWord) : (s.refuse q w).phase = s.phase := rfl
@[simp] theorem State.refuse_busy (q : RefusalReason) (w : Option ReqWord) : (s.refuse q w).busy = s.busy := rfl
@[simp] theorem State.refuse_prog (q : RefusalReason) (w : Option ReqWord) : (s.refuse q w).prog = s.prog := rfl
@[simp] theorem State.refuse_upc (q : RefusalReason) (w : Option ReqWord) : (s.refuse q w).upc = s.upc := rfl
@[simp] theorem State.refuse_rsp (q : RefusalReason) (w : Option ReqWord) : (s.refuse q w).rsp = s.rsp := rfl
@[simp] theorem State.refuse_rowoff (q : RefusalReason) (w : Option ReqWord) : (s.refuse q w).rowoff = s.rowoff := rfl
@[simp] theorem State.refuse_sync (q : RefusalReason) (w : Option ReqWord) : (s.refuse q w).sync = s.sync := rfl
@[simp] theorem State.refuse_last (q : RefusalReason) (w : Option ReqWord) : (s.refuse q w).last = s.last := rfl
@[simp] theorem State.refuse_faulted (q : RefusalReason) (w : Option ReqWord) : (s.refuse q w).faulted = s.faulted := rfl
@[simp] theorem State.refuse_refused (q : RefusalReason) (w : Option ReqWord) : (s.refuse q w).refused = true := rfl
@[simp] theorem State.refuse_tr (q : RefusalReason) (w : Option ReqWord) : (s.refuse q w).tr = s.tr := rfl
@[simp] theorem State.refuse_faultRec (q : RefusalReason) (w : Option ReqWord) : (s.refuse q w).faultRec = s.faultRec := rfl
@[simp] theorem State.refuse_refusals (q : RefusalReason) (w : Option ReqWord) : (s.refuse q w).refusals = s.refusals ++ [⟨q, w⟩] := rfl
@[simp] theorem State.refuse_rspDone (q : RefusalReason) (w : Option ReqWord) : (s.refuse q w).rspDone = s.rspDone := rfl
@[simp] theorem State.refuse_cfg (q : RefusalReason) (w : Option ReqWord) : (s.refuse q w).cfg = s.cfg := rfl
@[simp] theorem State.refuse_stuck (q : RefusalReason) (w : Option ReqWord) : (s.refuse q w).stuck = s.stuck := rfl
@[simp] theorem State.refuse_host (q : RefusalReason) (w : Option ReqWord) : (s.refuse q w).host = s.host := rfl
@[simp] theorem State.refuse_env (q : RefusalReason) (w : Option ReqWord) : (s.refuse q w).env = s.env := rfl
@[simp] theorem State.refuse_pins (q : RefusalReason) (w : Option ReqWord) : (s.refuse q w).pins = s.pins := rfl
@[simp] theorem State.refuse_latches (q : RefusalReason) (w : Option ReqWord) : (s.refuse q w).latches = s.latches := rfl
@[simp] theorem State.refuse_freeCount (q : RefusalReason) (w : Option ReqWord) : (s.refuse q w).freeCount = s.freeCount := rfl

@[simp] theorem State.engineReset_fn : (s.engineReset).fn = fnInit s.cfg := rfl
@[simp] theorem State.engineReset_ctl : (s.engineReset).ctl = .unset := rfl
@[simp] theorem State.engineReset_ems : (s.engineReset).ems = .unset := rfl
@[simp] theorem State.engineReset_bl : (s.engineReset).bl = s.cfg.blReset := rfl
@[simp] theorem State.engineReset_oled : (s.engineReset).oled = false := rfl
@[simp] theorem State.engineReset_phase : (s.engineReset).phase = .poweredUnknown := rfl
@[simp] theorem State.engineReset_busy : (s.engineReset).busy = false := rfl
@[simp] theorem State.engineReset_prog : (s.engineReset).prog = [] := rfl
@[simp] theorem State.engineReset_upc : (s.engineReset).upc = 0 := rfl
@[simp] theorem State.engineReset_rsp : (s.engineReset).rsp = 0 := rfl
@[simp] theorem State.engineReset_rowoff : (s.engineReset).rowoff = rowOffsets s.cfg := rfl
@[simp] theorem State.engineReset_sync : (s.engineReset).sync = false := rfl
@[simp] theorem State.engineReset_last : (s.engineReset).last = s.last := rfl
@[simp] theorem State.engineReset_faulted : (s.engineReset).faulted = s.faulted := rfl
@[simp] theorem State.engineReset_refused : (s.engineReset).refused = s.refused := rfl
@[simp] theorem State.engineReset_tr : (s.engineReset).tr = s.tr := rfl
@[simp] theorem State.engineReset_faultRec : (s.engineReset).faultRec = s.faultRec := rfl
@[simp] theorem State.engineReset_refusals : (s.engineReset).refusals = s.refusals := rfl
@[simp] theorem State.engineReset_rspDone : (s.engineReset).rspDone = false := rfl
@[simp] theorem State.engineReset_cfg : (s.engineReset).cfg = s.cfg := rfl
@[simp] theorem State.engineReset_stuck : (s.engineReset).stuck = none := rfl
@[simp] theorem State.engineReset_host : (s.engineReset).host = s.host := rfl
@[simp] theorem State.engineReset_env : (s.engineReset).env = s.env := rfl
@[simp] theorem State.engineReset_pins : (s.engineReset).pins = s.pins := rfl
@[simp] theorem State.engineReset_latches : (s.engineReset).latches = s.latches := rfl
@[simp] theorem State.engineReset_freeCount : (s.engineReset).freeCount = s.freeCount := rfl

@[simp] theorem State.ctrlReset_fn : (s.ctrlReset).fn = s.fn := rfl
@[simp] theorem State.ctrlReset_ctl : (s.ctrlReset).ctl = s.ctl := rfl
@[simp] theorem State.ctrlReset_ems : (s.ctrlReset).ems = s.ems := rfl
@[simp] theorem State.ctrlReset_bl : (s.ctrlReset).bl = s.bl := rfl
@[simp] theorem State.ctrlReset_oled : (s.ctrlReset).oled = s.oled := rfl
@[simp] theorem State.ctrlReset_phase : (s.ctrlReset).phase = s.phase := rfl
@[simp] theorem State.ctrlReset_busy : (s.ctrlReset).busy = s.busy := rfl
@[simp] theorem State.ctrlReset_prog : (s.ctrlReset).prog = s.prog := rfl
@[simp] theorem State.ctrlReset_upc : (s.ctrlReset).upc = s.upc := rfl
@[simp] theorem State.ctrlReset_rsp : (s.ctrlReset).rsp = s.rsp := rfl
@[simp] theorem State.ctrlReset_rowoff : (s.ctrlReset).rowoff = s.rowoff := rfl
@[simp] theorem State.ctrlReset_sync : (s.ctrlReset).sync = false := rfl
@[simp] theorem State.ctrlReset_last : (s.ctrlReset).last = s.last := rfl
@[simp] theorem State.ctrlReset_faulted : (s.ctrlReset).faulted = s.faulted := rfl
@[simp] theorem State.ctrlReset_refused : (s.ctrlReset).refused = s.refused := rfl
@[simp] theorem State.ctrlReset_tr : (s.ctrlReset).tr = s.tr := rfl
@[simp] theorem State.ctrlReset_faultRec : (s.ctrlReset).faultRec = s.faultRec := rfl
@[simp] theorem State.ctrlReset_refusals : (s.ctrlReset).refusals = s.refusals := rfl
@[simp] theorem State.ctrlReset_rspDone : (s.ctrlReset).rspDone = s.rspDone := rfl
@[simp] theorem State.ctrlReset_cfg : (s.ctrlReset).cfg = s.cfg := rfl
@[simp] theorem State.ctrlReset_stuck : (s.ctrlReset).stuck = s.stuck := rfl
@[simp] theorem State.ctrlReset_host : (s.ctrlReset).host = s.host := rfl
@[simp] theorem State.ctrlReset_env : (s.ctrlReset).env = s.env := rfl
@[simp] theorem State.ctrlReset_pins : (s.ctrlReset).pins = s.pins := rfl
@[simp] theorem State.ctrlReset_latches : (s.ctrlReset).latches = s.latches := rfl
@[simp] theorem State.ctrlReset_freeCount : (s.ctrlReset).freeCount = s.freeCount := rfl

@[simp] theorem State.drivePins_fn (d : Draw) (b : Byte) : (s.drivePins d b).fn = s.fn := rfl
@[simp] theorem State.drivePins_ctl (d : Draw) (b : Byte) : (s.drivePins d b).ctl = s.ctl := rfl
@[simp] theorem State.drivePins_ems (d : Draw) (b : Byte) : (s.drivePins d b).ems = s.ems := rfl
@[simp] theorem State.drivePins_bl (d : Draw) (b : Byte) : (s.drivePins d b).bl = s.bl := rfl
@[simp] theorem State.drivePins_oled (d : Draw) (b : Byte) : (s.drivePins d b).oled = s.oled := rfl
@[simp] theorem State.drivePins_phase (d : Draw) (b : Byte) : (s.drivePins d b).phase = s.phase := rfl
@[simp] theorem State.drivePins_busy (d : Draw) (b : Byte) : (s.drivePins d b).busy = s.busy := rfl
@[simp] theorem State.drivePins_prog (d : Draw) (b : Byte) : (s.drivePins d b).prog = s.prog := rfl
@[simp] theorem State.drivePins_upc (d : Draw) (b : Byte) : (s.drivePins d b).upc = s.upc := rfl
@[simp] theorem State.drivePins_rsp (d : Draw) (b : Byte) : (s.drivePins d b).rsp = s.rsp := rfl
@[simp] theorem State.drivePins_rowoff (d : Draw) (b : Byte) : (s.drivePins d b).rowoff = s.rowoff := rfl
@[simp] theorem State.drivePins_sync (d : Draw) (b : Byte) : (s.drivePins d b).sync = s.sync := rfl
@[simp] theorem State.drivePins_last (d : Draw) (b : Byte) : (s.drivePins d b).last = s.last := rfl
@[simp] theorem State.drivePins_faulted (d : Draw) (b : Byte) : (s.drivePins d b).faulted = s.faulted := rfl
@[simp] theorem State.drivePins_refused (d : Draw) (b : Byte) : (s.drivePins d b).refused = s.refused := rfl
@[simp] theorem State.drivePins_tr (d : Draw) (b : Byte) : (s.drivePins d b).tr = s.tr := rfl
@[simp] theorem State.drivePins_faultRec (d : Draw) (b : Byte) : (s.drivePins d b).faultRec = s.faultRec := rfl
@[simp] theorem State.drivePins_refusals (d : Draw) (b : Byte) : (s.drivePins d b).refusals = s.refusals := rfl
@[simp] theorem State.drivePins_rspDone (d : Draw) (b : Byte) : (s.drivePins d b).rspDone = s.rspDone := rfl
@[simp] theorem State.drivePins_cfg (d : Draw) (b : Byte) : (s.drivePins d b).cfg = s.cfg := rfl
@[simp] theorem State.drivePins_stuck (d : Draw) (b : Byte) : (s.drivePins d b).stuck = s.stuck := rfl
@[simp] theorem State.drivePins_host (d : Draw) (b : Byte) : (s.drivePins d b).host = s.host := rfl
@[simp] theorem State.drivePins_env (d : Draw) (b : Byte) : (s.drivePins d b).env = s.env := rfl
@[simp] theorem State.drivePins_pins (d : Draw) (b : Byte) : (s.drivePins d b).pins = s.pinsAfter d b := rfl
@[simp] theorem State.drivePins_latches (d : Draw) (b : Byte) : (s.drivePins d b).latches = s.latches ++ s.edge (s.pinsAfter d b) := rfl

@[simp] theorem State.writeExpander_fn (d : Draw) (v : Byte) : (s.writeExpander d v).fn = s.fn := rfl
@[simp] theorem State.writeExpander_ctl (d : Draw) (v : Byte) : (s.writeExpander d v).ctl = s.ctl := rfl
@[simp] theorem State.writeExpander_ems (d : Draw) (v : Byte) : (s.writeExpander d v).ems = s.ems := rfl
@[simp] theorem State.writeExpander_bl (d : Draw) (v : Byte) : (s.writeExpander d v).bl = s.bl := rfl
@[simp] theorem State.writeExpander_oled (d : Draw) (v : Byte) : (s.writeExpander d v).oled = s.oled := rfl
@[simp] theorem State.writeExpander_phase (d : Draw) (v : Byte) : (s.writeExpander d v).phase = s.phase := rfl
@[simp] theorem State.writeExpander_busy (d : Draw) (v : Byte) : (s.writeExpander d v).busy = s.busy := rfl
@[simp] theorem State.writeExpander_prog (d : Draw) (v : Byte) : (s.writeExpander d v).prog = s.prog := rfl
@[simp] theorem State.writeExpander_upc (d : Draw) (v : Byte) : (s.writeExpander d v).upc = s.upc := rfl
@[simp] theorem State.writeExpander_rsp (d : Draw) (v : Byte) : (s.writeExpander d v).rsp = s.rsp := rfl
@[simp] theorem State.writeExpander_rowoff (d : Draw) (v : Byte) : (s.writeExpander d v).rowoff = s.rowoff := rfl
@[simp] theorem State.writeExpander_sync (d : Draw) (v : Byte) : (s.writeExpander d v).sync = s.sync := rfl
@[simp] theorem State.writeExpander_last (d : Draw) (v : Byte) : (s.writeExpander d v).last = s.busByte v := rfl
@[simp] theorem State.writeExpander_faulted (d : Draw) (v : Byte) : (s.writeExpander d v).faulted = s.faulted := rfl
@[simp] theorem State.writeExpander_refused (d : Draw) (v : Byte) : (s.writeExpander d v).refused = s.refused := rfl
@[simp] theorem State.writeExpander_tr (d : Draw) (v : Byte) : (s.writeExpander d v).tr = s.tr ++ [.xfer s.cfg.addr7 (s.busByte v)] := rfl
@[simp] theorem State.writeExpander_faultRec (d : Draw) (v : Byte) : (s.writeExpander d v).faultRec = s.faultRec := rfl
@[simp] theorem State.writeExpander_refusals (d : Draw) (v : Byte) : (s.writeExpander d v).refusals = s.refusals := rfl
@[simp] theorem State.writeExpander_rspDone (d : Draw) (v : Byte) : (s.writeExpander d v).rspDone = s.rspDone := rfl
@[simp] theorem State.writeExpander_cfg (d : Draw) (v : Byte) : (s.writeExpander d v).cfg = s.cfg := rfl
@[simp] theorem State.writeExpander_stuck (d : Draw) (v : Byte) : (s.writeExpander d v).stuck = s.stuck := rfl
@[simp] theorem State.writeExpander_host (d : Draw) (v : Byte) : (s.writeExpander d v).host = s.host := rfl
@[simp] theorem State.writeExpander_env (d : Draw) (v : Byte) : (s.writeExpander d v).env = s.env := rfl
@[simp] theorem State.writeExpander_pins (d : Draw) (v : Byte) : (s.writeExpander d v).pins = s.pinsAfter d (s.busByte v) := rfl
@[simp] theorem State.writeExpander_latches (d : Draw) (v : Byte) : (s.writeExpander d v).latches = s.latches ++ s.edge (s.pinsAfter d (s.busByte v)) := rfl

@[simp] theorem State.setReg_fn (w : RegWrite) : (s.setReg w).fn = s.fn := by cases w <;> rfl
theorem State.setReg_ctl (w : RegWrite) : (s.setReg w).ctl = (match w with | .ctl v => .value v | _ => s.ctl) := by cases w <;> rfl
theorem State.setReg_ems (w : RegWrite) : (s.setReg w).ems = (match w with | .ems v => .value v | _ => s.ems) := by cases w <;> rfl
theorem State.setReg_bl (w : RegWrite) : (s.setReg w).bl = (match w with | .bl v => v | _ => s.bl) := by cases w <;> rfl
theorem State.setReg_oled (w : RegWrite) : (s.setReg w).oled = (match w with | .oled v => v | _ => s.oled) := by cases w <;> rfl
@[simp] theorem State.setReg_phase (w : RegWrite) : (s.setReg w).phase = s.phase := by cases w <;> rfl
@[simp] theorem State.setReg_busy (w : RegWrite) : (s.setReg w).busy = s.busy := by cases w <;> rfl
@[simp] theorem State.setReg_prog (w : RegWrite) : (s.setReg w).prog = s.prog := by cases w <;> rfl
@[simp] theorem State.setReg_upc (w : RegWrite) : (s.setReg w).upc = s.upc := by cases w <;> rfl
@[simp] theorem State.setReg_rsp (w : RegWrite) : (s.setReg w).rsp = s.rsp := by cases w <;> rfl
@[simp] theorem State.setReg_rowoff (w : RegWrite) : (s.setReg w).rowoff = s.rowoff := by cases w <;> rfl
@[simp] theorem State.setReg_sync (w : RegWrite) : (s.setReg w).sync = s.sync := by cases w <;> rfl
@[simp] theorem State.setReg_last (w : RegWrite) : (s.setReg w).last = s.last := by cases w <;> rfl
@[simp] theorem State.setReg_faulted (w : RegWrite) : (s.setReg w).faulted = s.faulted := by cases w <;> rfl
@[simp] theorem State.setReg_refused (w : RegWrite) : (s.setReg w).refused = s.refused := by cases w <;> rfl
@[simp] theorem State.setReg_tr (w : RegWrite) : (s.setReg w).tr = s.tr := by cases w <;> rfl
@[simp] theorem State.setReg_faultRec (w : RegWrite) : (s.setReg w).faultRec = s.faultRec := by cases w <;> rfl
@[simp] theorem State.setReg_refusals (w : RegWrite) : (s.setReg w).refusals = s.refusals := by cases w <;> rfl
@[simp] theorem State.setReg_rspDone (w : RegWrite) : (s.setReg w).rspDone = s.rspDone := by cases w <;> rfl
@[simp] theorem State.setReg_cfg (w : RegWrite) : (s.setReg w).cfg = s.cfg := by cases w <;> rfl
@[simp] theorem State.setReg_stuck (w : RegWrite) : (s.setReg w).stuck = s.stuck := by cases w <;> rfl
@[simp] theorem State.setReg_host (w : RegWrite) : (s.setReg w).host = s.host := by cases w <;> rfl
@[simp] theorem State.setReg_env (w : RegWrite) : (s.setReg w).env = s.env := by cases w <;> rfl
@[simp] theorem State.setReg_pins (w : RegWrite) : (s.setReg w).pins = s.pins := by cases w <;> rfl
@[simp] theorem State.setReg_latches (w : RegWrite) : (s.setReg w).latches = s.latches := by cases w <;> rfl
@[simp] theorem State.setReg_freeCount (w : RegWrite) : (s.setReg w).freeCount = s.freeCount := by cases w <;> rfl

end Sys2Proof.Machine
end

