-- ==== Sys2Proof/Laws/Ops.lean ====
section
/-! SUPPORT. One lemma per shared operation, saying once what it can do; callers cite it instead of unfolding it. -/

namespace Sys2Proof.Machine

/-- Acceptance in a state that accepts. -/
theorem whenReady_ready {s : State} (h : s.Ready) (k : State → State) : whenReady s k = .next (k s) := by
  simp [whenReady, h.1, h.2.1, h.2.2]

/-- All that acceptance can answer with a next state: the request taken, or the host held. -/
theorem whenReady_next {s t : State} {k : State → State} (h : whenReady s k = .next t) :
    (s.Ready ∧ t = k s) ∨ (s.busy = true ∧ t = s) := by
  simp only [whenReady] at h
  split at h
  · cases h
  · split at h
    · cases h
    · split at h <;> simp_all [State.Ready]

/-- A toggle of a mirror that holds a value. -/
theorem toggle_value {s : State} {r : MirrorReg} {x : Byte} (h : s.mirror r = .value x) (op : ToggleOp) (mask : Byte)
    (w : ReqWord) : s.toggle r op mask w = s.load (toggleOps r (toggled op mask x)) := by
  simp [State.toggle, h]

/-- A toggle of a mirror that is UNSET. -/
theorem toggle_unset {s : State} {r : MirrorReg} (h : s.mirror r = .unset) (op : ToggleOp) (mask : Byte) (w : ReqWord) :
    s.toggle r op mask w = s.raiseFault .mirrorUnset w := by
  simp [State.toggle, h]

/-- All that a toggle can do at acceptance. -/
theorem toggle_cases (s : State) (r : MirrorReg) (op : ToggleOp) (mask : Byte) (w : ReqWord) :
    (s.mirror r = .unset ∧ s.toggle r op mask w = s.raiseFault .mirrorUnset w) ∨
    (∃ x, s.mirror r = .value x ∧ s.toggle r op mask w = s.load (toggleOps r (toggled op mask x))) := by
  cases h : s.mirror r with
  | unset => exact .inl ⟨rfl, toggle_unset h op mask w⟩
  | value x => exact .inr ⟨x, rfl, toggle_value h op mask w⟩

/-- With an answer, a micro-operation that waits for a collaborator only advances the counter. -/
@[simp] theorem await_ack (s : State) (dev : Device) : s.await .ack dev = s.advance := rfl
@[simp] theorem await_nak (s : State) (dev : Device) : s.await .nak dev = s.advance := rfl

@[simp] theorem pinsAfter_ack (s : State) (b : Byte) : s.pinsAfter .ack b = b := rfl

/-- What no micro-operation changes, whatever the environment answers. -/
theorem perform_keeps (s : State) (d : Draw) (m : MicroOp) :
    (s.perform d m).cfg = s.cfg ∧ (s.perform d m).fn = s.fn ∧ (s.perform d m).rowoff = s.rowoff ∧
    (s.perform d m).host = s.host ∧ (s.perform d m).env = s.env ∧ (s.perform d m).faulted = s.faulted ∧
    (s.perform d m).refused = s.refused ∧ (s.perform d m).faultRec = s.faultRec ∧
    (s.perform d m).refusals = s.refusals := by
  cases m <;> cases d <;> simp [State.perform, State.await]

/-- The control fields after a micro-operation other than DONE that is answered: only UPC moves. -/
theorem perform_control (s : State) (m : MicroOp) (h : m.isDone = false) :
    (s.perform .ack m).prog = s.prog ∧ (s.perform .ack m).busy = s.busy ∧ (s.perform .ack m).stuck = s.stuck ∧
    (s.perform .ack m).upc = s.upc + 1 := by
  cases m <;> simp_all [State.perform, MicroOp.isDone]

end Sys2Proof.Machine
end

