-- ==== Sys2Proof/Laws/Run.lean ====
section
/-! SUPPORT. How a micro-program runs: the steps of the machine fold its micro-operations, and what STROBE and SEND do to
the state. -/

namespace Sys2Proof.Machine

/-- The micro-operations of a list performed one after the other, each one answered. -/
def State.performAll (s : State) (ops : List MicroOp) : State := ops.foldl (fun s m => s.perform .ack m) s

@[simp] theorem performAll_nil (s : State) : s.performAll [] = s := rfl

@[simp] theorem performAll_cons (s : State) (m : MicroOp) (ops : List MicroOp) :
    s.performAll (m :: ops) = (s.perform .ack m).performAll ops := rfl

theorem performAll_append (s : State) (p q : List MicroOp) :
    s.performAll (p ++ q) = (s.performAll p).performAll q := by
  simp [State.performAll]

/-- A step of a running engine that nothing disturbs performs the micro-operation at UPC. -/
theorem step_running {s : State} {m : MicroOp} (hr : s.Running) (he : s.env = [])
    (hm : s.prog[s.upc.toNat]? = some m) : step s = .next (s.perform .ack m) := by
  obtain ⟨hc, hf, hb, hs⟩ := hr
  simp [step, machineStep, engineStep, performNext, he, hc, hf, hb, hs, hm]

/-- The program counter after one more micro-operation of a program that fits in seven bits. -/
theorem upc_succ {s : State} (h : s.upc.toNat + 1 < 128) : (s.upc + 1).toNat = s.upc.toNat + 1 := by
  simp [BitVec.toNat_add]; omega

/-- A running engine that nothing disturbs performs the rest of its program, up to its DONE, one step each. -/
theorem run_rest (ops : List MicroOp) (r : Byte) :
    ∀ s : State, s.Running → s.env = [] → s.prog.length ≤ 127 → (∀ m ∈ ops, m.isDone = false) →
      s.prog.drop s.upc.toNat = ops ++ [.done r] →
      Host.Core.run Sys2Proof.core (ops.length + 1) s = .next ((s.performAll ops).finish r) := by
  induction ops with
  | nil =>
    intro s hr he _ _ hp
    have hm : s.prog[s.upc.toNat]? = some (.done r) := by
      have := congrArg (·[0]?) hp
      simpa using this
    simp only [List.length_nil, Host.Core.run]
    have := step_running hr he hm
    simp only [Sys2Proof.core, this]
    rfl
  | cons m ops ih =>
    intro s hr he hl hd hp
    have hm : s.prog[s.upc.toNat]? = some m := by
      have := congrArg (·[0]?) hp
      simpa using this
    have hmd := hd m (by simp)
    obtain ⟨hprog, hbusy, hstuck, hupc⟩ := perform_control s m hmd
    obtain ⟨hcfg, -, -, -, henv, hfault, -⟩ := perform_keeps s .ack m
    have hlen : s.upc.toNat + (ops.length + 2) = s.prog.length := by
      have := congrArg List.length hp
      simp at this
      omega
    have hu : (s.upc + 1).toNat = s.upc.toNat + 1 := upc_succ (by omega)
    have hrun : (s.perform .ack m).Running := by
      obtain ⟨a, b, c, d⟩ := hr
      exact ⟨hcfg ▸ a, hfault ▸ b, hbusy ▸ c, hstuck ▸ d⟩
    have hdrop : (s.perform .ack m).prog.drop (s.perform .ack m).upc.toNat = ops ++ [.done r] := by
      rw [hprog, hupc, hu, ← List.drop_drop, hp]; rfl
    have hstep := step_running hr he hm
    have := ih (s.perform .ack m) hrun (henv ▸ he) (hprog ▸ hl) (fun x hx => hd x (by simp [hx])) hdrop
    simp only [List.length_cons, Host.Core.run]
    rw [show Host.Core.step Sys2Proof.core s = .next (s.perform .ack m) from hstep]
    exact this

/-- A micro-program just loaded runs to its DONE. -/
theorem run_loaded {s : State} {ops : List MicroOp} {r : Byte} (hr : s.Ready) (hu : s.Undisturbed)
    (hl : ops.length ≤ 126) (hd : ∀ m ∈ ops, m.isDone = false) :
    Host.Core.run Sys2Proof.core (ops.length + 1) (s.load (ops ++ [.done r])) =
      .next (((s.load (ops ++ [.done r])).performAll ops).finish r) := by
  refine run_rest ops r _ ⟨hr.1, hr.2.1, rfl, hu.2⟩ hu.1 ?_ hd ?_
  · simp; omega
  · simp

/-- An instruction whose meaning accepts a micro-program runs to that program's DONE. -/
theorem runsTo_accept {i : Instr} {s : State} {ops : List MicroOp} {r : Byte} (hr : s.Ready) (hu : s.Undisturbed)
    (hx : exec i s = accept (ops ++ [.done r]) s) (hl : ops.length ≤ 126) (hd : ∀ m ∈ ops, m.isDone = false) :
    RunsTo i s (ops.length + 1) (((s.load (ops ++ [.done r])).performAll ops).finish r) :=
  ⟨s.load (ops ++ [.done r]), by rw [hx, accept, whenReady_ready hr], run_loaded hr hu hl hd⟩

/-- The pins of a strobe's bytes, for an `n` that meets R109: E low, high, low; data and RS those of `n`. -/
theorem strobe_pins (n : Byte) (h : n &&& 0x0E = 0) (bl : Bool) :
    n &&& ~~~enMask = n ∧ pinE (n ||| blBits bl) = false ∧ pinE (n ||| enMask ||| blBits bl) = true ∧
    pinData (n ||| blBits bl) = pinData n ∧ pinRs (n ||| blBits bl) = pinRs n := by
  revert n bl; decide

/-- `s` after micro-operations that emit `es`, leave `last` in LAST and `pins` on the pins, latch `ls` and move UPC by
`k`. -/
def State.moved (s : State) (es : List BusEvent) (last pins : Byte) (ls : List Latch) (k : BitVec 7) : State :=
  { s with
    tr := s.tr ++ es, last := last, pins := pins, latches := s.latches ++ ls, upc := s.upc + k, rspDone := false }

theorem moved_moved (s : State) (es es' : List BusEvent) (a a' p p' : Byte) (ls ls' : List Latch) (k k' : BitVec 7) :
    (s.moved es a p ls k).moved es' a' p' ls' k' = s.moved (es ++ es') a' p' (ls ++ ls') (k + k') := by
  simp [State.moved, BitVec.add_assoc]

/-- The pulse of a loaded program that moved and then ended. -/
theorem load_moved_finish (s : State) (p : List MicroOp) (es : List BusEvent) (a : Byte) (ls : List Latch) (k : BitVec 7)
    (r : Byte) : ((s.load p).moved es a a ls k).finish r = s.answered es a ls r := rfl

@[simp] theorem load_edge (s : State) (p : List MicroOp) (b : Byte) : (s.load p).edge b = s.edge b := rfl

theorem perform_wait (s : State) (t : Micros) :
    s.perform .ack (.wait t) = s.moved [.wait t] s.last s.pins [] 1 := by
  simp [State.perform, State.moved, State.emit, State.clearPulse, State.advance]

theorem perform_xfer (s : State) (v : Byte) :
    s.perform .ack (.xfer v) =
      s.moved [.xfer s.cfg.addr7 (s.busByte v)] (s.busByte v) (s.busByte v) (s.edge (s.busByte v)) 1 := by
  simp [State.perform, State.moved, State.emit, State.clearPulse, State.advance, State.writeExpander, State.drivePins,
    State.edge, State.busByte]

/-- What STROBE(n) does, for an `n` that meets R109 (R110): its events, LAST, and the nibble it latches; the first
transfer latches one more when E was high before (20_memory.md R61). -/
theorem performAll_strobe (s : State) (n : Byte) (h : n &&& 0x0E = 0) :
    s.performAll (strobe n) =
      s.moved (strobeEvents s.cfg.addr7 s.bl n) (n ||| blBits s.bl) (n ||| blBits s.bl)
        (s.edge (n ||| blBits s.bl) ++ [⟨pinData n, pinRs n, s.sync, s.phase⟩]) 5 := by
  obtain ⟨h1, h2, h3, h4, h5⟩ := strobe_pins n h s.bl
  have e1 : s.upc + 1 + 1 + 1 + 1 + 1 = s.upc + 5 := by simp only [BitVec.add_assoc]; rfl
  have e2 : strobeEvents s.cfg.addr7 s.bl n = [.xfer s.cfg.addr7 (n ||| blBits s.bl),
      .xfer s.cfg.addr7 (n ||| enMask ||| blBits s.bl), .wait tEn, .xfer s.cfg.addr7 (n ||| blBits s.bl),
      .wait tSettle] := rfl
  simp only [strobe, performAll_cons, performAll_nil, perform_wait, perform_xfer, State.moved, State.busByte, State.edge,
    e2, h1, h2, h3, h4, h5, e1, List.append_assoc, List.cons_append, List.nil_append]
  simp

/-- The nibble bytes of SEND, as the spec writes them. -/
theorem nibbles_eq (b : Byte) : hiNibble b .cmd = (nibbleBytes b false).1 ∧ loNibble b .cmd = (nibbleBytes b false).2 ∧
    hiNibble b .data = (nibbleBytes b true).1 ∧ loNibble b .data = (nibbleBytes b true).2 := by
  revert b; decide

/-- Every nibble byte meets R109 (30_encoding.md R69). -/
theorem nibbles_low (b : Byte) (rs : Bool) :
    (nibbleBytes b rs).1 &&& 0x0E = 0 ∧ (nibbleBytes b rs).2 &&& 0x0E = 0 := by
  revert b rs; decide

/-- The nibbles and RS of the two nibble bytes of `b` (41_byte_transfer.md R122). -/
theorem nibbles_pins (b : Byte) (rs : Bool) :
    pinData (nibbleBytes b rs).1 = b.extractLsb' 4 4 ∧ pinRs (nibbleBytes b rs).1 = rs ∧
    pinData (nibbleBytes b rs).2 = b.extractLsb' 0 4 ∧ pinRs (nibbleBytes b rs).2 = rs := by
  revert b rs; decide

/-- STROBE and SEND have no DONE inside. -/
theorem strobe_noDone (n : Byte) : ∀ m ∈ strobe n, m.isDone = false := by simp [strobe, MicroOp.isDone]

theorem send_noDone (b : Byte) (m : Mode) : ∀ x ∈ send b m, x.isDone = false := by
  simp [send, strobe, MicroOp.isDone]

@[simp] theorem strobe_length (n : Byte) : (strobe n).length = 5 := rfl
@[simp] theorem send_length (b : Byte) (m : Mode) : (send b m).length = 10 := rfl

/-- Whether a byte's mode is data. -/
def Mode.isData : Mode → Bool
  | .cmd => false
  | .data => true

/-- SEND as two strobes of the spec's nibble bytes. -/
theorem send_eq (b : Byte) (m : Mode) :
    send b m = strobe (nibbleBytes b m.isData).1 ++ strobe (nibbleBytes b m.isData).2 := by
  obtain ⟨h1, h2, h3, h4⟩ := nibbles_eq b
  cases m <;> simp [send, Mode.isData, *]

/-- What SEND(b, m) does (R118): ten events, LAST, and the two nibbles of `b` latched with RS = m; the first transfer
latches one more when E was high before. -/
theorem performAll_send (s : State) (b : Byte) (m : Mode) :
    s.performAll (send b m) =
      s.moved (sendEvents s.cfg.addr7 s.bl b m.isData) (sendLast s.bl b m.isData) (sendLast s.bl b m.isData)
        (s.edge ((nibbleBytes b m.isData).1 ||| blBits s.bl) ++
          [⟨b.extractLsb' 4 4, m.isData, s.sync, s.phase⟩, ⟨b.extractLsb' 0 4, m.isData, s.sync, s.phase⟩]) 10 := by
  obtain ⟨l1, l2⟩ := nibbles_low b m.isData
  obtain ⟨p1, p2, p3, p4⟩ := nibbles_pins b m.isData
  have hp := (strobe_pins _ l1 s.bl).2.1
  rw [send_eq, performAll_append, performAll_strobe _ _ l1, performAll_strobe _ _ l2, moved_moved]
  simp only [State.moved, State.edge, hp, p1, p2, p3, p4, sendEvents, sendLast]
  simp

/-- A request whose micro-program is one SEND and a DONE, run to its end. -/
theorem runsTo_send {i : Instr} {s : State} {b : Byte} {m : Mode} {r : Byte} (hr : s.Ready) (hu : s.Undisturbed)
    (hx : exec i s = accept (send b m ++ [.done r]) s) :
    RunsTo i s 11 (s.answered (sendEvents s.cfg.addr7 s.bl b m.isData) (sendLast s.bl b m.isData)
      (s.edge ((nibbleBytes b m.isData).1 ||| blBits s.bl) ++
        [⟨b.extractLsb' 4 4, m.isData, s.sync, s.phase⟩, ⟨b.extractLsb' 0 4, m.isData, s.sync, s.phase⟩]) r) := by
  have h := runsTo_accept hr hu hx (by simp) (send_noDone b m)
  rw [performAll_send, load_moved_finish] at h
  exact h

/-- A transfer that is not acknowledged: the pins take a free value (20_memory.md R41). -/
theorem perform_xfer_nak (s : State) (v : Byte) : s.perform .nak (.xfer v) =
    { s with
      tr := s.tr ++ [.xfer s.cfg.addr7 (s.busByte v)], last := s.busByte v, upc := s.upc + 1, rspDone := false
      pins := Config.freePins s.freeCount, freeCount := s.freeCount + 1
      latches := s.latches ++ s.edge (Config.freePins s.freeCount) } := by
  simp [State.perform, State.writeExpander, State.drivePins, State.emit, State.pinsAfter, State.await, State.advance,
    State.clearPulse, State.busByte, State.edge]

end Sys2Proof.Machine
end

