-- ==== Sys2Proof/Laws/Exec.lean ====
section
/-! SUPPORT. All that `exec` and `step` can do, said once: the provers case on these instead of unfolding the dispatch and
the step. -/

namespace Sys2Proof.Machine

/-- Every meaning is an acceptance, and what it does to the state it accepts in is one of three: it loads a micro-program,
raises the one fault (a toggle whose mirror is UNSET), or takes the one refusal (a reserved word). -/
theorem exec_cases (i : Instr) (s : State) : ∃ k : State → State, exec i s = whenReady s k ∧
    ((∃ p, k s = s.load p) ∨
     (∃ w, k s = s.raiseFault .mirrorUnset w ∧ ∃ r, toggleRegister i = some r ∧ s.mirror r = .unset) ∨
     (∃ w, k s = s.refuse .reservedEncoding (some w) ∧ isReserved i = true)) := by
  cases i
  all_goals
    simp only [exec, execInit, execCommand, execWrite, execClear, execHome, execSetCursor, execDisplayOff, execDisplayOn,
      execCursorOff, execCursorOn, execBlinkOff, execBlinkOn, execScrollLeft, execScrollRight, execLeftToRight,
      execRightToLeft, execAutoscrollOn, execAutoscrollOff, execBacklightOff, execBacklightOn, execCreateChar,
      execSetOled, execStubContrast, execStubBargraph, execStubKeypad, execStubStatus, execStubDelay,
      execReservedOp27, execReservedOp28To31, execReservedRsv, execClearDisplay, execReturnHome, execEntryModeSet,
      execDisplayControl, execCursorShift, execFunctionSet, execSetCgramAddr, execSetDdramAddr, execData,
      execInitNibble8Bit, execInitNibble4Bit, accept, acceptToggle, acceptReserved, sendCommandByte]
  all_goals first
    | exact ⟨_, rfl, .inl ⟨_, rfl⟩⟩
    | exact ⟨_, rfl, .inr (.inr ⟨_, rfl, rfl⟩)⟩
    | (refine ⟨_, rfl, ?_⟩
       rcases toggle_cases s .ctl _ _ _ with ⟨h, e⟩ | ⟨x, h, e⟩
       · exact .inr (.inl ⟨_, e, _, rfl, h⟩)
       · exact .inl ⟨_, e⟩)
    | (refine ⟨_, rfl, ?_⟩
       rcases toggle_cases s .ems _ _ _ with ⟨h, e⟩ | ⟨x, h, e⟩
       · exact .inr (.inl ⟨_, e, _, rfl, h⟩)
       · exact .inl ⟨_, e⟩)

/-- The one operation of each mirror toggle, with the word it would record. -/
theorem exec_toggle {i : Instr} {r : MirrorReg} (h : toggleRegister i = some r) :
    ∃ op m w, encode i = .req w 0 ∧ ∀ s, exec i s = acceptToggle r op m w s := by
  cases i <;> simp only [toggleRegister, reduceCtorEq, Option.some.injEq] at h <;> subst h <;>
    exact ⟨_, _, _, rfl, fun _ => rfl⟩

/-- All that the engine can do in a step that answers a next state. -/
theorem engineStep_cases {d : Draw} {s t : State} (h : engineStep d s = .next t) :
    (∃ m, s.Running ∧ s.prog[s.upc.toNat]? = some m ∧ t = s.perform d m) ∨
    (s.Ready ∧ s.stuck = none ∧ s.host = [] ∧ t = s.clearPulse) ∨
    (∃ r rest, s.Ready ∧ s.stuck = none ∧ s.host = r :: rest ∧
      exec (decodeReq r.word r.glyph) { s.clearPulse with host := rest } = .next t) := by
  simp only [engineStep] at h
  split at h
  · cases h
  split at h
  · cases h
  rename_i hc hf
  have hc : configLegal s.cfg = true := by simpa using hc
  have hf : s.faulted = false := by simpa using hf
  split at h
  · cases h
  · cases h
  rename_i hst
  split at h
  · rename_i hb
    simp only [performNext] at h
    split at h
    · rename_i m hm
      injection h with h
      exact .inl ⟨m, ⟨hc, hf, hb, hst⟩, hm, h.symm⟩
    · cases h
  · rename_i hb
    have hb : s.busy = false := by simpa using hb
    simp only [acceptNext] at h
    split at h
    · rename_i hh
      injection h with h
      exact .inr (.inl ⟨⟨hc, hf, hb⟩, hst, hh, h.symm⟩)
    · rename_i r rest hh
      exact .inr (.inr ⟨r, rest, ⟨hc, hf, hb⟩, hst, hh, h⟩)

/-- All that a step can be: a reset, a controller reset, or the engine's step with the environment's answer. -/
theorem step_cases {s t : State} (h : step s = .next t) :
    (∃ es, s.env = .rst :: es ∧ t = { s with env := es }.engineReset) ∨
    (∃ es, s.env = .ctrlReset :: es ∧ t = { s with env := es }.ctrlReset) ∨
    (s.env = [] ∧ engineStep .ack s = .next t) ∨
    (∃ d es, s.env = .answer d :: es ∧ engineStep d { s with env := es } = .next t) := by
  simp only [step, machineStep] at h
  split at h
  · exact .inr (.inr (.inl ⟨by assumption, h⟩))
  · injection h with h
    exact .inl ⟨_, by assumption, h.symm⟩
  · injection h with h
    exact .inr (.inl ⟨_, by assumption, h.symm⟩)
  · exact .inr (.inr (.inr ⟨_, _, by assumption, h⟩))

/-- A run has one end. -/
theorem runsTo_unique {i : Instr} {s u v : State} {n : Nat} (h : RunsTo i s n u) (h' : RunsTo i s n v) : u = v := by
  obtain ⟨t, h1, h2⟩ := h
  obtain ⟨t', h1', h2'⟩ := h'
  rw [h1] at h1'
  injection h1' with e
  subst e
  rw [h2] at h2'
  injection h2'

end Sys2Proof.Machine
end

