-- ==== Sys2Proof/Laws/PerInstr.lean ====
section
/-! SUPPORT. The family TableRow: every well-formed instruction is encoded in the format of its row of
spec/opcode_table.json, with the row's fixed bits (its match under its mask). One lemma per constructor. -/

namespace Sys2Proof.Laws.TableRow

/-- The formats of the opcode table. -/
inductive Format where
  | req24
  | hdCmd8
  | hdData8
  | nibble
  deriving DecidableEq, Repr

/-- A row: its format, and its fixed bits as a value under a mask, in 24 bits whatever the format. -/
structure Row where
  format : Format
  value : BitVec 24
  mask : BitVec 24
  deriving DecidableEq, Repr

/-- The format and the bits of an encoded instruction, numbered as the table numbers them: a nibble is bits 7:4 of its
expander byte (30_encoding.md R86). -/
def encodedBits : Fetched → Format × BitVec 24
  | .req w _ => (.req24, w)
  | .byte false c => (.hdCmd8, c.setWidth 24)
  | .byte true c => (.hdData8, c.setWidth 24)
  | .nibble n => (.nibble, (n ++ 0#4).setWidth 24)

/-- The row of each instruction, transcribed from spec/opcode_table.json. -/
def row : Instr → Row
  | .init _ _ => ⟨.req24, 0x000000#24, 0xFF0000#24⟩
  | .command _ _ => ⟨.req24, 0x080000#24, 0xFF0000#24⟩
  | .write _ _ => ⟨.req24, 0x100000#24, 0xFF0000#24⟩
  | .clear _ _ => ⟨.req24, 0x180000#24, 0xFF0000#24⟩
  | .home _ _ => ⟨.req24, 0x200000#24, 0xFF0000#24⟩
  | .setCursor _ _ => ⟨.req24, 0x280000#24, 0xFF0000#24⟩
  | .displayOff _ _ => ⟨.req24, 0x300000#24, 0xFF0000#24⟩
  | .displayOn _ _ => ⟨.req24, 0x380000#24, 0xFF0000#24⟩
  | .cursorOff _ _ => ⟨.req24, 0x400000#24, 0xFF0000#24⟩
  | .cursorOn _ _ => ⟨.req24, 0x480000#24, 0xFF0000#24⟩
  | .blinkOff _ _ => ⟨.req24, 0x500000#24, 0xFF0000#24⟩
  | .blinkOn _ _ => ⟨.req24, 0x580000#24, 0xFF0000#24⟩
  | .scrollLeft _ _ => ⟨.req24, 0x600000#24, 0xFF0000#24⟩
  | .scrollRight _ _ => ⟨.req24, 0x680000#24, 0xFF0000#24⟩
  | .leftToRight _ _ => ⟨.req24, 0x700000#24, 0xFF0000#24⟩
  | .rightToLeft _ _ => ⟨.req24, 0x780000#24, 0xFF0000#24⟩
  | .autoscrollOn _ _ => ⟨.req24, 0x800000#24, 0xFF0000#24⟩
  | .autoscrollOff _ _ => ⟨.req24, 0x880000#24, 0xFF0000#24⟩
  | .backlightOff _ _ => ⟨.req24, 0x900000#24, 0xFF0000#24⟩
  | .backlightOn _ _ => ⟨.req24, 0x980000#24, 0xFF0000#24⟩
  | .createChar _ _ _ => ⟨.req24, 0xA00000#24, 0xFF0000#24⟩
  | .setOled _ _ => ⟨.req24, 0xA80000#24, 0xFF0000#24⟩
  | .stubContrast _ _ => ⟨.req24, 0xB00000#24, 0xFF0000#24⟩
  | .stubBargraph _ _ => ⟨.req24, 0xB80000#24, 0xFF0000#24⟩
  | .stubKeypad _ _ => ⟨.req24, 0xC00000#24, 0xFF0000#24⟩
  | .stubStatus _ _ => ⟨.req24, 0xC80000#24, 0xFF0000#24⟩
  | .stubDelay _ _ => ⟨.req24, 0xD00000#24, 0xFF0000#24⟩
  | .reservedOp27 _ _ _ => ⟨.req24, 0xD80000#24, 0xF80000#24⟩
  | .reservedOp28To31 _ _ _ _ => ⟨.req24, 0xE00000#24, 0xE00000#24⟩
  | .reservedRsv _ _ _ _ => ⟨.req24, 0x000000#24, 0x000000#24⟩
  | .clearDisplay => ⟨.hdCmd8, 0x01#24, 0xFF#24⟩
  | .returnHome _ => ⟨.hdCmd8, 0x02#24, 0xFE#24⟩
  | .entryModeSet _ _ => ⟨.hdCmd8, 0x04#24, 0xFC#24⟩
  | .displayControl _ _ _ => ⟨.hdCmd8, 0x08#24, 0xF8#24⟩
  | .cursorShift _ _ _ => ⟨.hdCmd8, 0x10#24, 0xF0#24⟩
  | .functionSet _ _ _ _ => ⟨.hdCmd8, 0x20#24, 0xE0#24⟩
  | .setCgramAddr _ => ⟨.hdCmd8, 0x40#24, 0xC0#24⟩
  | .setDdramAddr _ => ⟨.hdCmd8, 0x80#24, 0x80#24⟩
  | .data _ => ⟨.hdData8, 0x00#24, 0x00#24⟩
  | .initNibble8Bit => ⟨.nibble, 0x30#24, 0xF0#24⟩
  | .initNibble4Bit => ⟨.nibble, 0x20#24, 0xF0#24⟩

/-- The row of RESERVED_RSV has no fixed bits: its condition, "RSV ≠ 0 (any OP)", is no match under a mask (R75). -/
def extra : Instr → Prop
  | .reservedRsv op rsv a b => rsvField (reqWord op rsv a b) ≠ 0
  | _ => True

/-- A well-formed instruction is encoded in its row's format with its row's fixed bits. -/
def Statement (i : Instr) : Prop :=
  i.WellFormed →
    (encodedBits (encode i)).1 = (row i).format ∧ (encodedBits (encode i)).2 &&& (row i).mask = (row i).value ∧ extra i

/-- A mask of the high bits drops the low ones. -/
theorem mask_low16 (w : BitVec 24) : w &&& 0xFF0000#24 = (w >>> 16) <<< 16 := by
  ext i h; interval_cases i <;> simp

theorem mask_low19 (w : BitVec 24) : w &&& 0xF80000#24 = (w >>> 19) <<< 19 := by
  ext i h; interval_cases i <;> simp

theorem mask_low21 (w : BitVec 24) : w &&& 0xE00000#24 = (w >>> 21) <<< 21 := by
  ext i h; interval_cases i <;> simp

/-- A request with RSV = 0 has the fixed bits of its row. -/
theorem request {op : BitVec 5} {w : BitVec 24} (a b : Byte) (h : op.toNat * 2 ^ 19 = w.toNat) :
    reqWord op 0 a b &&& 0xFF0000#24 = w := by
  refine (mask_low16 _).trans (BitVec.eq_of_toNat_eq ?_)
  have h0 := op.isLt
  have h1 := a.isLt
  have h2 := b.isLt
  have h3 : (0 : BitVec 3).toNat = 0 := rfl
  simp only [BitVec.toNat_shiftLeft, BitVec.toNat_ushiftRight, reqWord_toNat, Nat.shiftRight_eq_div_pow, Nat.shiftLeft_eq]
  omega

/-- The same as a statement. -/
theorem request_row {i : Instr} {op : BitVec 5} {w : BitVec 24} {a b : Byte} {g : Glyph}
    (he : encode i = .req (reqWord op 0 a b) g) (hr : row i = ⟨.req24, w, 0xFF0000#24⟩) (hx : extra i)
    (h : op.toNat * 2 ^ 19 = w.toNat) : Statement i := by
  intro _
  rw [he, hr]
  exact ⟨rfl, request a b h, hx⟩

theorem init (a b : Byte) : Statement (.init a b) := request_row rfl rfl trivial rfl
theorem command (a b : Byte) : Statement (.command a b) := request_row rfl rfl trivial rfl
theorem write (a b : Byte) : Statement (.write a b) := request_row rfl rfl trivial rfl
theorem clear (a b : Byte) : Statement (.clear a b) := request_row rfl rfl trivial rfl
theorem home (a b : Byte) : Statement (.home a b) := request_row rfl rfl trivial rfl
theorem setCursor (a b : Byte) : Statement (.setCursor a b) := request_row rfl rfl trivial rfl
theorem displayOff (a b : Byte) : Statement (.displayOff a b) := request_row rfl rfl trivial rfl
theorem displayOn (a b : Byte) : Statement (.displayOn a b) := request_row rfl rfl trivial rfl
theorem cursorOff (a b : Byte) : Statement (.cursorOff a b) := request_row rfl rfl trivial rfl
theorem cursorOn (a b : Byte) : Statement (.cursorOn a b) := request_row rfl rfl trivial rfl
theorem blinkOff (a b : Byte) : Statement (.blinkOff a b) := request_row rfl rfl trivial rfl
theorem blinkOn (a b : Byte) : Statement (.blinkOn a b) := request_row rfl rfl trivial rfl
theorem scrollLeft (a b : Byte) : Statement (.scrollLeft a b) := request_row rfl rfl trivial rfl
theorem scrollRight (a b : Byte) : Statement (.scrollRight a b) := request_row rfl rfl trivial rfl
theorem leftToRight (a b : Byte) : Statement (.leftToRight a b) := request_row rfl rfl trivial rfl
theorem rightToLeft (a b : Byte) : Statement (.rightToLeft a b) := request_row rfl rfl trivial rfl
theorem autoscrollOn (a b : Byte) : Statement (.autoscrollOn a b) := request_row rfl rfl trivial rfl
theorem autoscrollOff (a b : Byte) : Statement (.autoscrollOff a b) := request_row rfl rfl trivial rfl
theorem backlightOff (a b : Byte) : Statement (.backlightOff a b) := request_row rfl rfl trivial rfl
theorem backlightOn (a b : Byte) : Statement (.backlightOn a b) := request_row rfl rfl trivial rfl
theorem createChar (a b : Byte) (g : Glyph) : Statement (.createChar a b g) := request_row rfl rfl trivial rfl
theorem setOled (a b : Byte) : Statement (.setOled a b) := request_row rfl rfl trivial rfl
theorem stubContrast (a b : Byte) : Statement (.stubContrast a b) := request_row rfl rfl trivial rfl
theorem stubBargraph (a b : Byte) : Statement (.stubBargraph a b) := request_row rfl rfl trivial rfl
theorem stubKeypad (a b : Byte) : Statement (.stubKeypad a b) := request_row rfl rfl trivial rfl
theorem stubStatus (a b : Byte) : Statement (.stubStatus a b) := request_row rfl rfl trivial rfl
theorem stubDelay (a b : Byte) : Statement (.stubDelay a b) := request_row rfl rfl trivial rfl

theorem reservedOp27 (rsv : BitVec 3) (a b : Byte) : Statement (.reservedOp27 rsv a b) := by
  intro _
  refine ⟨rfl, (mask_low19 _).trans (BitVec.eq_of_toNat_eq ?_), trivial⟩
  have h0 := rsv.isLt
  have h1 := a.isLt
  have h2 := b.isLt
  have h3 : (0b11011 : BitVec 5).toNat = 27 := rfl
  simp only [row, BitVec.toNat_shiftLeft, BitVec.toNat_ushiftRight, encode, encodedBits, reqWord_toNat,
    Nat.shiftRight_eq_div_pow, Nat.shiftLeft_eq]
  simp
  omega

theorem reservedOp28To31 (low : BitVec 2) (rsv : BitVec 3) (a b : Byte) : Statement (.reservedOp28To31 low rsv a b) := by
  intro _
  refine ⟨rfl, (mask_low21 _).trans (BitVec.eq_of_toNat_eq ?_), trivial⟩
  have h0 := rsv.isLt
  have h1 := a.isLt
  have h2 := b.isLt
  have h3 : ∀ low : BitVec 2, (0b111#3 ++ low).toNat / 4 = 7 := by decide
  have h4 := h3 low
  have h5 : (0xE00000#24).toNat = 7 * 2 ^ 21 := rfl
  simp only [row, BitVec.toNat_shiftLeft, BitVec.toNat_ushiftRight, encode, encodedBits, reqWord_toNat,
    Nat.shiftRight_eq_div_pow, Nat.shiftLeft_eq]
  omega

theorem reservedRsv (op : BitVec 5) (rsv : BitVec 3) (a b : Byte) : Statement (.reservedRsv op rsv a b) := by
  intro h
  refine ⟨rfl, by simp [row, encode, encodedBits], ?_⟩
  have hr : rsv ≠ 0 := by
    intro h0
    subst h0
    cases h
  simpa [extra] using hr

theorem clearDisplay : Statement .clearDisplay := fun _ => ⟨rfl, rfl, trivial⟩
theorem returnHome (x : BitVec 1) : Statement (.returnHome x) := fun _ => by
  refine ⟨rfl, ?_, trivial⟩
  revert x; decide
theorem entryModeSet (id s : BitVec 1) : Statement (.entryModeSet id s) := fun _ => by
  refine ⟨rfl, ?_, trivial⟩
  revert id s; decide
theorem displayControl (d c b : BitVec 1) : Statement (.displayControl d c b) := fun _ => by
  refine ⟨rfl, ?_, trivial⟩
  revert d c b; decide
theorem cursorShift (sc rl : BitVec 1) (x : BitVec 2) : Statement (.cursorShift sc rl x) := fun _ => by
  refine ⟨rfl, ?_, trivial⟩
  revert sc rl x; decide
theorem functionSet (dl n f : BitVec 1) (x : BitVec 2) : Statement (.functionSet dl n f x) := fun _ => by
  refine ⟨rfl, ?_, trivial⟩
  revert dl n f x; decide
theorem setCgramAddr (addr : BitVec 6) : Statement (.setCgramAddr addr) := fun _ => by
  refine ⟨rfl, ?_, trivial⟩
  revert addr; decide
theorem setDdramAddr (addr : BitVec 7) : Statement (.setDdramAddr addr) := fun _ => by
  refine ⟨rfl, ?_, trivial⟩
  revert addr; decide
theorem data (d : Byte) : Statement (.data d) := fun _ => by
  refine ⟨rfl, by simp [row, encode, encodedBits], trivial⟩
theorem initNibble8Bit : Statement .initNibble8Bit := fun _ => ⟨rfl, rfl, trivial⟩
theorem initNibble4Bit : Statement .initNibble4Bit := fun _ => ⟨rfl, rfl, trivial⟩

end Sys2Proof.Laws.TableRow
end

