-- ==== Sys2Proof/Tests/Slice0.lean ====
section
/-! SUPPORT. The model's own tests, and the witnesses of the statements' hypotheses. Expected values come from the spec:
its encodings (30_encoding.md), the worked example of each instruction's rule, and 95_test_vectors.md. -/

namespace Sys2Proof.Tests

open Sys2Proof Sys2Proof.Machine

/-! ## WellFormed -/

/-- R75: RESERVED_RSV needs RSV ≠ 0. -/
theorem test_illFormed_rsv_zero : ¬ (Instr.reservedRsv 3 0 0 0).WellFormed := by decide

/-- R75: RESERVED_RSV needs an assigned OP; OP = 27 is the row RESERVED_OP27's. -/
theorem test_illFormed_rsv_op : ¬ (Instr.reservedRsv 27 1 0 0).WellFormed := by decide

theorem test_wellFormed_rsv : (Instr.reservedRsv 26 1 0 0).WellFormed ∧ (Instr.reservedRsv 0 7 0xFF 0xFF).WellFormed := by
  decide

/-! ## Decoding: words written out bit by bit as OP, RSV, A, B (R71, R73) -/

theorem test_decode_init : decode (.req 0b000000001000000101000010 7) = .ok (.init 0x81 0x42) := by decide
theorem test_decode_command : decode (.req 0b000010001000000101000010 7) = .ok (.command 0x81 0x42) := by decide
theorem test_decode_write : decode (.req 0b000100001000000101000010 7) = .ok (.write 0x81 0x42) := by decide
theorem test_decode_clear : decode (.req 0b000110001000000101000010 7) = .ok (.clear 0x81 0x42) := by decide
theorem test_decode_home : decode (.req 0b001000001000000101000010 7) = .ok (.home 0x81 0x42) := by decide
theorem test_decode_setCursor : decode (.req 0b001010001000000101000010 7) = .ok (.setCursor 0x81 0x42) := by decide
theorem test_decode_displayOff : decode (.req 0b001100001000000101000010 7) = .ok (.displayOff 0x81 0x42) := by decide
theorem test_decode_displayOn : decode (.req 0b001110001000000101000010 7) = .ok (.displayOn 0x81 0x42) := by decide
theorem test_decode_cursorOff : decode (.req 0b010000001000000101000010 7) = .ok (.cursorOff 0x81 0x42) := by decide
theorem test_decode_cursorOn : decode (.req 0b010010001000000101000010 7) = .ok (.cursorOn 0x81 0x42) := by decide
theorem test_decode_blinkOff : decode (.req 0b010100001000000101000010 7) = .ok (.blinkOff 0x81 0x42) := by decide
theorem test_decode_blinkOn : decode (.req 0b010110001000000101000010 7) = .ok (.blinkOn 0x81 0x42) := by decide
theorem test_decode_scrollLeft : decode (.req 0b011000001000000101000010 7) = .ok (.scrollLeft 0x81 0x42) := by decide
theorem test_decode_scrollRight : decode (.req 0b011010001000000101000010 7) = .ok (.scrollRight 0x81 0x42) := by decide
theorem test_decode_leftToRight : decode (.req 0b011100001000000101000010 7) = .ok (.leftToRight 0x81 0x42) := by decide
theorem test_decode_rightToLeft : decode (.req 0b011110001000000101000010 7) = .ok (.rightToLeft 0x81 0x42) := by decide
theorem test_decode_autoscrollOn : decode (.req 0b100000001000000101000010 7) = .ok (.autoscrollOn 0x81 0x42) := by decide
theorem test_decode_autoscrollOff : decode (.req 0b100010001000000101000010 7) = .ok (.autoscrollOff 0x81 0x42) := by decide
theorem test_decode_backlightOff : decode (.req 0b100100001000000101000010 7) = .ok (.backlightOff 0x81 0x42) := by decide
theorem test_decode_backlightOn : decode (.req 0b100110001000000101000010 7) = .ok (.backlightOn 0x81 0x42) := by decide
theorem test_decode_createChar : decode (.req 0b101000001000000101000010 0x0102030405060708) = .ok (.createChar 0x81 0x42 0x0102030405060708) := by decide
theorem test_decode_setOled : decode (.req 0b101010001000000101000010 7) = .ok (.setOled 0x81 0x42) := by decide
theorem test_decode_stubContrast : decode (.req 0b101100001000000101000010 7) = .ok (.stubContrast 0x81 0x42) := by decide
theorem test_decode_stubBargraph : decode (.req 0b101110001000000101000010 7) = .ok (.stubBargraph 0x81 0x42) := by decide
theorem test_decode_stubKeypad : decode (.req 0b110000001000000101000010 7) = .ok (.stubKeypad 0x81 0x42) := by decide
theorem test_decode_stubStatus : decode (.req 0b110010001000000101000010 7) = .ok (.stubStatus 0x81 0x42) := by decide
theorem test_decode_stubDelay : decode (.req 0b110100001000000101000010 7) = .ok (.stubDelay 0x81 0x42) := by decide
theorem test_decode_reservedOp27 : decode (.req 0b110110001000000101000010 0) = .ok (.reservedOp27 0 0x81 0x42) := by decide
theorem test_decode_reservedOp28To31 :
    decode (.req 0b111000000000000000000000 0) = .ok (.reservedOp28To31 0 0 0 0) ∧
    decode (.req 0b111111111111111111111111 0) = .ok (.reservedOp28To31 3 7 0xFF 0xFF) := by decide
theorem test_decode_reservedRsv : decode (.req 0b000010011000000101000010 0) = .ok (.reservedRsv 1 1 0x81 0x42) := by decide

/-! The command bytes of R77 to R84, DATA (R85), the handshake nibbles (R86), and what is none (R88). -/

theorem test_decode_clearDisplay : decode (.byte false 0b00000001) = .ok .clearDisplay := by decide
theorem test_decode_returnHome : decode (.byte false 0b00000011) = .ok (.returnHome 1) := by decide
theorem test_decode_entryModeSet : decode (.byte false 0b00000110) = .ok (.entryModeSet 1 0) := by decide
theorem test_decode_displayControl : decode (.byte false 0b00001011) = .ok (.displayControl 0 1 1) := by decide
theorem test_decode_cursorShift : decode (.byte false 0b00011001) = .ok (.cursorShift 1 0 1) := by decide
theorem test_decode_functionSet : decode (.byte false 0b00101000) = .ok (.functionSet 0 1 0 0) := by decide
theorem test_decode_setCgramAddr : decode (.byte false 0b01001000) = .ok (.setCgramAddr 8) := by decide
theorem test_decode_setDdramAddr : decode (.byte false 0b11000011) = .ok (.setDdramAddr 0x43) := by decide
theorem test_decode_data : decode (.byte true 0b01000001) = .ok (.data 0x41) := by decide
theorem test_decode_initNibble8Bit : decode (.nibble 0b0011) = .ok .initNibble8Bit := by decide
theorem test_decode_initNibble4Bit : decode (.nibble 0b0010) = .ok .initNibble4Bit := by decide
theorem test_decode_noCommand : decode (.byte false 0) = .error .noCommand := by decide
theorem test_decode_noNibble : decode (.nibble 1) = .error .noHandshakeNibble := by decide

/-! ## Each instruction's acceptance, against the example of its rule -/

/-- A transfer to the address of the test configuration. -/
def x (b : Byte) : BusEvent := .xfer 0x27 b

/-- A strobe as the spec's examples write one: `low, high, W1, low, W42`. -/
def strobed (low high : Byte) : List BusEvent := [x low, x high, .wait 1, x low, .wait 42]

/-- The events of the micro-program that `i` loads in `s`. -/
def loads (i : Instr) (s : State) : List BusEvent :=
  match exec i s with
  | .next t => busEvents s.cfg.addr7 s.bl t.prog
  | .fault _ => []
  | .refused _ => []

/-- The next state an outcome answers. -/
def answer : Host.Outcome State Fault Refusal → Option State
  | .next t => some t
  | .fault _ => none
  | .refused _ => none

/-- The idle machine with values in its mirror. -/
def mirrored (ctl ems : Byte) : State := { State.reset with ctl := .value ctl, ems := .value ems }

/-- A machine that runs the micro-operation `m`. -/
def running (m : MicroOp) : State := { State.reset with busy := true, prog := [m, .done 0] }

/-- R125, V-INIT-1: the start of INIT's trace with BL = 1. -/
theorem test_init :
    (loads (.init 0 0) State.reset).take 14 = [.busInit, .wait 50000, x 0x08, .wait 500000] ++ strobed 0x38 0x3C ++ [.wait 4200] ++ [x 0x38, x 0x3C, .wait 1, x 0x38] := by decide

/-- R125, R135: after the handshake, function set 0x28. -/
theorem test_init_function_set :
    ((loads (.init 0 0) State.reset).drop 26).take 10 = strobed 0x28 0x2C ++ strobed 0x88 0x8C := by decide

/-- R119. -/
theorem test_command : loads (.command 0x0F 0) State.reset = strobed 0x08 0x0C ++ strobed 0xF8 0xFC := by decide

/-- R120. -/
theorem test_write : loads (.write 0x41 0) State.reset = strobed 0x49 0x4D ++ strobed 0x19 0x1D := by decide

/-- R161. -/
theorem test_clear : loads (.clear 0 0) State.reset = strobed 0x08 0x0C ++ strobed 0x18 0x1C ++ [.wait 2000] := by decide

/-- R161: the OLED variant returns to (0,0) after the wait. -/
theorem test_clear_oled :
    loads (.clear 0 0) { State.reset with oled := true } = strobed 0x08 0x0C ++ strobed 0x18 0x1C ++ [.wait 2000] ++ strobed 0x88 0x8C ++ strobed 0x08 0x0C := by decide

/-- R162. -/
theorem test_home : loads (.home 0 0) State.reset = strobed 0x08 0x0C ++ strobed 0x28 0x2C ++ [.wait 2000] := by decide

/-- R164: SET_CURSOR 3, 1 sends 0xC3. -/
theorem test_setCursor : loads (.setCursor 3 1) State.reset = strobed 0xC8 0xCC ++ strobed 0x38 0x3C := by decide

/-- R164: with two rows SET_CURSOR 0, 5 sends 0xC0. -/
theorem test_setCursor_clamps : loads (.setCursor 0 5) State.reset = strobed 0xC8 0xCC ++ strobed 0x08 0x0C := by decide

/-- R146: CTL = 0x07 gives COMMAND 0x0B. -/
theorem test_displayOff :
    loads (.displayOff 0 0) (mirrored 0x07 0x02) = strobed 0x08 0x0C ++ strobed 0xB8 0xBC := by decide

/-- R147. -/
theorem test_displayOn :
    loads (.displayOn 0 0) (mirrored 0x04 0x02) = strobed 0x08 0x0C ++ strobed 0xC8 0xCC := by decide

/-- R148. -/
theorem test_cursorOff :
    loads (.cursorOff 0 0) (mirrored 0x07 0x02) = strobed 0x08 0x0C ++ strobed 0xD8 0xDC := by decide

/-- R149. -/
theorem test_cursorOn : loads (.cursorOn 0 0) (mirrored 0x04 0x02) = strobed 0x08 0x0C ++ strobed 0xE8 0xEC := by decide

/-- R150. -/
theorem test_blinkOff : loads (.blinkOff 0 0) (mirrored 0x07 0x02) = strobed 0x08 0x0C ++ strobed 0xE8 0xEC := by decide

/-- R151. -/
theorem test_blinkOn : loads (.blinkOn 0 0) (mirrored 0x04 0x02) = strobed 0x08 0x0C ++ strobed 0xD8 0xDC := by decide

/-- R156. -/
theorem test_scrollLeft : loads (.scrollLeft 0 0) State.reset = strobed 0x18 0x1C ++ strobed 0x88 0x8C := by decide

/-- R157. -/
theorem test_scrollRight : loads (.scrollRight 0 0) State.reset = strobed 0x18 0x1C ++ strobed 0xC8 0xCC := by decide

/-- R152. -/
theorem test_leftToRight :
    loads (.leftToRight 0 0) (mirrored 0x04 0x00) = strobed 0x08 0x0C ++ strobed 0x68 0x6C := by decide

/-- R153. -/
theorem test_rightToLeft :
    loads (.rightToLeft 0 0) (mirrored 0x04 0x02) = strobed 0x08 0x0C ++ strobed 0x48 0x4C := by decide

/-- R154. -/
theorem test_autoscrollOn :
    loads (.autoscrollOn 0 0) (mirrored 0x04 0x02) = strobed 0x08 0x0C ++ strobed 0x78 0x7C := by decide

/-- R155. -/
theorem test_autoscrollOff :
    loads (.autoscrollOff 0 0) (mirrored 0x04 0x03) = strobed 0x08 0x0C ++ strobed 0x68 0x6C := by decide

/-- R182: the fault records the whole word. -/
theorem test_toggle_unset :
    answer (exec (.cursorOn 0x12 0x34) State.reset) = some { State.reset with faulted := true, faultRec := some ⟨.mirrorUnset, 0x481234⟩ } := by decide

/-- R158. -/
theorem test_backlightOff : loads (.backlightOff 0 0) State.reset = [x 0x00] := by decide

/-- R159. -/
theorem test_backlightOn : loads (.backlightOn 0 0) { State.reset with bl := false } = [x 0x08] := by decide

/-- R166, R167: slot 9 is slot 1; row 0 first, no bit masked. -/
theorem test_createChar :
    (loads (.createChar 9 0 0xFF1F) State.reset).take 30 = strobed 0x48 0x4C ++ strobed 0x88 0x8C ++ strobed 0x19 0x1D ++ strobed 0xF9 0xFD ++ strobed 0xF9 0xFD ++ strobed 0xF9 0xFD := by decide

/-- R169: only A[0] counts. -/
theorem test_setOled :
    answer (exec (.setOled 0xFF 0) State.reset) = some { State.reset with busy := true, prog := [.setReg (.oled true), .done 0] } := by decide

/-- R172. -/
theorem test_stubContrast :
    answer (exec (.stubContrast 0x80 3) State.reset) = some { State.reset with busy := true, prog := [.done 0] } := by decide

/-- R173. -/
theorem test_stubBargraph :
    answer (exec (.stubBargraph 0x80 3) State.reset) = some { State.reset with busy := true, prog := [.done 0] } := by decide

/-- R174. -/
theorem test_stubKeypad :
    answer (exec (.stubKeypad 0x80 3) State.reset) = some { State.reset with busy := true, prog := [.done 0] } := by decide

/-- R175. -/
theorem test_stubStatus :
    answer (exec (.stubStatus 0x80 3) State.reset) = some { State.reset with busy := true, prog := [.done 0] } := by decide

/-- R176. -/
theorem test_stubDelay :
    answer (exec (.stubDelay 0x80 3) State.reset) = some { State.reset with busy := true, prog := [.done 0] } := by decide

/-- R184, R183. -/
theorem test_reservedOp27 :
    answer (exec (.reservedOp27 0 1 2) State.reset) = some { State.reset with refused := true, refusals := [⟨.reservedEncoding, some 0xD80102⟩] } := by decide

/-- R184, R183. -/
theorem test_reservedOp28To31 :
    answer (exec (.reservedOp28To31 3 0 1 2) State.reset) = some { State.reset with refused := true, refusals := [⟨.reservedEncoding, some 0xF80102⟩] } := by decide

/-- R184, R183. -/
theorem test_reservedRsv :
    answer (exec (.reservedRsv 1 1 1 2) State.reset) = some { State.reset with refused := true, refusals := [⟨.reservedEncoding, some 0x090102⟩] } := by decide

/-- R76, R118. -/
theorem test_clearDisplay : loads (.clearDisplay) State.reset = strobed 0x08 0x0C ++ strobed 0x18 0x1C := by decide

/-- R76, R118. -/
theorem test_returnHome : loads (.returnHome 1) State.reset = strobed 0x08 0x0C ++ strobed 0x38 0x3C := by decide

/-- R76, R118. -/
theorem test_entryModeSet : loads (.entryModeSet 1 0) State.reset = strobed 0x08 0x0C ++ strobed 0x68 0x6C := by decide

/-- R76, R118. -/
theorem test_displayControl :
    loads (.displayControl 1 1 1) State.reset = strobed 0x08 0x0C ++ strobed 0xF8 0xFC := by decide

/-- R76, R118. -/
theorem test_cursorShift : loads (.cursorShift 1 0 0) State.reset = strobed 0x18 0x1C ++ strobed 0x88 0x8C := by decide

/-- R76, R118. -/
theorem test_functionSet : loads (.functionSet 0 1 0 0) State.reset = strobed 0x28 0x2C ++ strobed 0x88 0x8C := by decide

/-- R76, R118. -/
theorem test_setCgramAddr : loads (.setCgramAddr 8) State.reset = strobed 0x48 0x4C ++ strobed 0x88 0x8C := by decide

/-- R76, R118. -/
theorem test_setDdramAddr : loads (.setDdramAddr 0x43) State.reset = strobed 0xC8 0xCC ++ strobed 0x38 0x3C := by decide

/-- R85, R120. -/
theorem test_data : loads (.data 0x41) State.reset = strobed 0x49 0x4D ++ strobed 0x19 0x1D := by decide

/-- R86, R110. -/
theorem test_initNibble8Bit : loads .initNibble8Bit State.reset = strobed 0x38 0x3C := by decide

/-- R86, R110. -/
theorem test_initNibble4Bit : loads .initNibble4Bit State.reset = strobed 0x28 0x2C := by decide

/-! ## The step -/

/-- R70, R101: the presented word is decoded and accepted. -/
theorem test_step_fetches :
    answer (step (State.reset.withFetchWord 24 0x104100)) = answer (exec (.write 0x41 0) State.reset) := by decide

/-- A byte form is presented as its passthrough (log entry 10). -/
theorem test_step_byte :
    answer (step (State.reset.withFetchWord 8 0x28)) = answer (exec (.functionSet 0 1 0 0) State.reset) := by decide

/-- R72: the glyph payload is presented above the word. -/
theorem test_step_glyph :
    answer (step (State.reset.withFetchWord 88 0x1FA00900)) = answer (exec (.createChar 9 0 0x1F) State.reset) := by
  decide

/-- R98: a transfer writes LAST and emits one event; R61: it latches a nibble when E falls. -/
theorem test_step_xfer :
    answer (step { running (.xfer 0x31) with pins := 0x3D }) =
      some
        { running (.xfer 0x31) with
          upc := 1, tr := [x 0x39], last := 0x39, pins := 0x39
          latches := [⟨3, true, false, .poweredUnknown⟩] } := by
  decide

/-- R187: a wait whose timer never reports. -/
theorem test_step_hang : step { running (.wait 42) with stuck := some .timer } = .fault .timerStuck := rfl

/-- R64: the decoded bytes of four nibbles latched with SYNC = 1. -/
theorem test_decodedBytes :
    decodedBytes [⟨2, false, false, .fourBitLocked⟩, ⟨2, false, true, .functionSet⟩, ⟨8, false, true, .functionSet⟩,
      ⟨4, true, true, .ready⟩, ⟨1, true, true, .ready⟩] = [(false, 0x28), (true, 0x41)] := by decide

/-- The nibbles of INIT as V-SRC-8 lists them: `3 3 3 2 | 2 8 | 0 C | 0 1 | 0 6 | 0 2`, all with RS = 0. -/
def initNibbles : List Latch :=
  [⟨3, false, false, .modeRequested1⟩, ⟨3, false, false, .modeRequested2⟩, ⟨3, false, false, .modeRequested3⟩,
    ⟨2, false, false, .fourBitLocked⟩] ++
  ([2, 8, 0, 0xC, 0, 1, 0, 6, 0, 2] : List (BitVec 4)).map fun n => ⟨n, false, true, .functionSet⟩

/-- R64, V-SRC-8: the decoded stream of INIT is one list, the handshake first; a WRITE of 0x41 and a second INIT go on in
the order of the bus, the handshake between bytes. -/
theorem test_decodedStream :
    decodedStream initNibbles = ([0x30, 0x30, 0x30, 0x20, 0x28, 0x0C, 0x01, 0x06, 0x02] : List Byte).map (false, ·) ∧
    (decodedStream (initNibbles ++ [⟨4, true, true, .ready⟩, ⟨1, true, true, .ready⟩] ++ initNibbles)).drop 8 =
      [(false, 0x02), (true, 0x41), (false, 0x30), (false, 0x30), (false, 0x30), (false, 0x20), (false, 0x28),
        (false, 0x0C), (false, 0x01), (false, 0x06), (false, 0x02)] := by decide

/-- R64, R86: the stream as instructions: a handshake nibble is told from FUNCTION_SET by its position. -/
theorem test_decodedInstrs :
    ((decodedInstrs initNibbles).drop 2).take 3 =
      [.ok .initNibble8Bit, .ok .initNibble4Bit, .ok (.functionSet 0 1 0 0)] := by decide

/-- R112: the pulse check refuses a pulse without its settle, and one whose low byte differs. -/
theorem test_wellPulsed :
    wellPulsed (strobed 0x38 0x3C) = true ∧ wellPulsed [x 0x38, x 0x3C, .wait 1, x 0x38, .wait 41] = false ∧
    wellPulsed [x 0x38, x 0x3C, .wait 1, x 0x28, .wait 42] = false := by decide

/-! ## Witnesses: concrete states and operands that meet each statement's hypotheses

Each `witness_<Name>` is for the statement `Obligations.<Name>`; `clause` names the clause it is for. -/

/-- An instance of the test vectors with other rows and dots. -/
def shaped (rows : Byte) (dots : Dots) : Config := { Config.vectors with rows := rows, dots := dots }

/-- The idle machine with one request presented. -/
def presented (w : ReqWord) : State := { State.reset with host := [⟨w, 0⟩] }

/-- The idle machine after a fault. -/
def faulty : State := { State.reset with faulted := true, faultRec := some ⟨.mirrorUnset, 0x480000⟩ }

/-- For every statement on an accepted request that only asks for an idle, undisturbed engine: SetOledWritesFlag,
CommandSendsByte, WriteSendsByteAnswersOne, ScrollsAreStateless, HomeWaits, HandshakeNibblesStrobeOnce, AcceptanceFrame. -/
theorem witness_Idle : State.reset.Ready ∧ State.reset.Undisturbed := by decide

/-- The same with any other PHASE, SYNC, backlight and pins: no run from reset is needed. -/
theorem witness_Idle_other :
    let s := { mirrored 0xFF 0xFF with phase := .cleared, sync := true, bl := false, pins := 0xFF, last := 0xFF }
    s.Ready ∧ s.Undisturbed := by decide

theorem witness_StepRunsDecodedRequest :
    let s := presented 0x104100
    s.Ready ∧ s.stuck = none ∧ s.host = ⟨0x104100, 0⟩ :: [] ∧ decode (.req 0x104100 0) = .ok (.write 0x41 0) ∧ s.env = [] := by
  decide

theorem witness_StepRunsDecodedRequest_answered :
    let s := { presented 0xD80000 with env := [.answer .nak] }
    s.Ready ∧ s.stuck = none ∧ s.host = ⟨0xD80000, 0⟩ :: [] ∧
    decode (.req 0xD80000 0) = .ok (.reservedOp27 0 0 0) ∧ s.env = .answer .nak :: [] := by decide

/-- The clauses with no request presented, right after a DONE. -/
theorem witness_StepRunsDecodedRequest_waits :
    let s := { State.reset with rspDone := true }
    (s.Ready ∧ s.stuck = none ∧ s.host = [] ∧ s.env = []) ∧ { s with env := [.answer .nak] }.env = .answer .nak :: [] := by
  decide

theorem witness_StepPerformsMicroOperation :
    let s := running (.xfer 0x30)
    s.Running ∧ s.prog[s.upc.toNat]? = some (.xfer 0x30) ∧ s.env = [] ∧ (MicroOp.xfer 0x30).isDone = false := by decide

/-- The clause for any answer, at the last micro-operation, DONE. -/
theorem witness_StepPerformsMicroOperation_done :
    let s := { running (.xfer 0x30) with upc := 1, env := [.answer .hang] }
    s.Running ∧ s.prog[s.upc.toNat]? = some (.done 0) ∧ s.env = .answer .hang :: [] := by decide

/-- A toggle of an UNSET mirror, and a request that loads a micro-program. -/
theorem witness_OnlyTogglesOfUnsetMirrorFault :
    State.reset.Ready ∧ (∃ t, exec (.displayOn 0 0) State.reset = .next t ∧ t.faulted = true) ∧
    (∃ t, exec (.init 0 0) State.reset = .next t ∧ t.faulted = false) :=
  ⟨by decide, ⟨_, rfl, rfl⟩, ⟨_, rfl, rfl⟩⟩

theorem witness_BusyHoldsHost :
    let s := running (.wait 42)
    configLegal s.cfg = true ∧ s.faulted = false ∧ s.busy = true ∧ ∃ t, step s = .next t :=
  ⟨by decide, by decide, by decide, ⟨_, rfl⟩⟩

theorem witness_RequestSampledOnce : (running (.wait 42)).busy = true := by decide

/-- A state of the invariant with a running micro-program: the hypotheses of WorkingEngineAlwaysSteps, StepKeepsInvariant
and AcceptedProgramsInForm. -/
theorem witness_Inv : (running (.wait 42)).Inv := by
  constructor <;> decide

theorem witness_WorkingEngineAlwaysSteps :
    let s := running (.wait 42)
    configLegal s.cfg = true ∧ s.faulted = false ∧ s.stuck = none := by decide

theorem witness_StepKeepsInvariant : ∃ t, step (running (.wait 42)) = .next t := ⟨_, rfl⟩

/-- An idle state of the invariant, whose mirror holds every bit it may. -/
theorem witness_Inv_idle : (mirrored 0x07 0x03).Inv := by
  constructor <;> decide

theorem witness_AcceptedProgramsInForm :
    (mirrored 0x07 0x03).Ready ∧ ∃ t, exec (.displayOff 0 0) (mirrored 0x07 0x03) = .next t ∧ t.busy = true :=
  ⟨by decide, ⟨_, rfl, rfl⟩⟩

theorem witness_FaultedEngineStops :
    configLegal faulty.cfg = true ∧ faulty.faulted = true ∧ faulty.env = [] := by decide

theorem witness_FaultedEngineStops_answered :
    let s := { faulty with env := [.answer .ack] }
    configLegal s.cfg = true ∧ s.faulted = true ∧ s.env = .answer .ack :: [] := by decide

/-- Both ends of the illegal range, and both ends of the legal one. -/
theorem witness_IllegalRowsRefused :
    ((shaped 0 .d5x8).rows.toNat = 0 ∧ 4 < (shaped 5 .d5x8).rows.toNat ∧ 4 < (shaped 255 .d5x8).rows.toNat) ∧
    (let s := State.powerOn (shaped 5 .d5x8)
     s.cfg = shaped 5 .d5x8 ∧ s.env = []) ∧
    (1 ≤ (shaped 1 .d5x8).rows.toNat ∧ (shaped 4 .d5x8).rows.toNat ≤ 4) := by decide

theorem witness_ReservedWordsRefused :
    isReserved (.reservedOp27 7 0 0) = true ∧ isReserved (.reservedOp28To31 3 0 0xFF 0xFF) = true ∧
    isReserved (.reservedRsv 26 1 0 0) = true ∧ State.reset.Ready := by decide

/-- The three collaborators' cases, each with the environment's list ended and with a reset next. -/
theorem witness_NeverCompletedIsStuck_xfer :
    let s := { running (.xfer 0x30) with env := [.answer .hang] }
    s.Running ∧ s.prog[s.upc.toNat]? = some (.xfer 0x30) ∧ s.env = .answer .hang :: [] := by decide

theorem witness_NeverCompletedIsStuck_busInit :
    let s := { running .busInit with env := [.answer .hang, .rst] }
    s.Running ∧ s.prog[s.upc.toNat]? = some .busInit ∧ s.env = .answer .hang :: .rst :: [] := by decide

theorem witness_NeverCompletedIsStuck_wait :
    let s := { running (.wait 42) with env := [.answer .hang] }
    s.Running ∧ s.prog[s.upc.toNat]? = some (.wait 42) ∧ s.env = .answer .hang :: [] := by decide

theorem witness_PowerOnState : configLegal (shaped 1 .d5x8) = true ∧ configLegal (shaped 4 .d5x10) = true := by decide

theorem witness_ConfigurationValues :
    (configLegal (shaped 2 .d5x10) = true ∧ 1 < (shaped 2 .d5x10).rows.toNat) ∧
    (configLegal (shaped 1 .d5x8) = true ∧ (shaped 1 .d5x8).rows = 1 ∧ (shaped 1 .d5x8).dots = .d5x8) ∧
    (configLegal (shaped 1 .d5x10) = true ∧ (shaped 1 .d5x10).rows = 1 ∧ (shaped 1 .d5x10).dots = .d5x10) := by decide

/-- A reset while BUSY = 1 with a request presented. -/
theorem witness_EngineResetLoadsResetState :
    { running (.xfer 0) with env := [.rst], host := [⟨0, 0⟩] }.env = .rst :: [] := by decide

theorem witness_ControllerResetClearsSyncOnly :
    { running (.xfer 0) with env := [.ctrlReset, .rst], sync := true }.env = .ctrlReset :: .rst :: [] := by decide

/-- One running state for each clause, for the statements about single micro-operations. -/
theorem witness_RegisterMicroOperations :
    (running (.enter .ready)).Running ∧ (running (.enter .ready)).env = [] ∧
    (running (.enter .ready)).prog[0]? = some (.enter .ready) ∧
    (running (.setReg (.ctl 7))).prog[0]? = some (.setReg (.ctl 7)) ∧
    (running (.setReg (.ems 3))).prog[0]? = some (.setReg (.ems 3)) ∧
    (running (.setReg (.bl false))).prog[0]? = some (.setReg (.bl false)) ∧
    (running (.setReg (.oled true))).prog[0]? = some (.setReg (.oled true)) ∧
    (running (.sync true)).prog[0]? = some (.sync true) := by decide

theorem witness_BusInitAndWaitEmit :
    (running .busInit).Running ∧ (running .busInit).env = [] ∧ (running .busInit).prog[0]? = some .busInit ∧
    (running (.wait 0)).Running ∧ (running (.wait 0)).env = [] ∧ (running (.wait 0)).prog[0]? = some (.wait 0) := by decide

/-- A transfer that drops E with the backlight on. -/
theorem witness_TransferOrsBacklight :
    let s := { running (.xfer 0x30) with pins := 0x3C }
    s.Running ∧ s.env = [] ∧ s.prog[s.upc.toNat]? = some (.xfer 0x30) ∧
    (0x38 : Byte) = (if s.bl then 0x30 ||| 0x08 else 0x30) ∧ s.pins.getLsbD 2 = true ∧ (0x38 : Byte).getLsbD 2 = false := by
  decide

/-- A transfer that raises E with the backlight off. -/
theorem witness_TransferOrsBacklight_off :
    let s := { running (.xfer 0x34) with bl := false }
    s.Running ∧ s.env = [] ∧ s.prog[s.upc.toNat]? = some (.xfer 0x34) ∧
    (0x34 : Byte) = (if s.bl then 0x34 ||| 0x08 else 0x34) := by decide

theorem witness_DoneEndsRequest :
    (running (.done 1)).Running ∧ (running (.done 1)).env = [] ∧ (running (.done 1)).prog[0]? = some (.done 1) := by decide

theorem witness_FailedTransferCountsAsPerformed :
    let s := { running (.xfer 0x30) with env := [.answer .nak] }
    s.Running ∧ s.env = .answer .nak :: [] ∧ s.prog[s.upc.toNat]? = some (.xfer 0x30) := by decide

theorem witness_GhostsNeverMatter :
    State.reset.eraseGhosts =
      { State.reset with sync := true, pins := 0x3C, freeCount := 5
                         latches := [⟨3, true, true, .ready⟩] }.eraseGhosts := by decide

/-- The runs of COMMAND and WRITE that the statement compares exist. -/
theorem witness_CommandAndWriteDifferInRsOnly :
    (∃ u, RunsTo (.command 0x41 0) State.reset 11 u) ∧ (∃ v, RunsTo (.write 0x41 0) State.reset 11 v) :=
  ⟨⟨_, runsTo_send (m := .cmd) witness_Idle.1 witness_Idle.2 rfl⟩,
   ⟨_, runsTo_send (m := .data) witness_Idle.1 witness_Idle.2 rfl⟩⟩

theorem witness_SentByteDecodesBack :
    State.reset.Ready ∧ State.reset.Undisturbed ∧ State.reset.pins.getLsbD 2 = false ∧
    (Instr.write 0x41 0, true) ∈ [(Instr.command 0x41 0, false), (.write 0x41 0, true)] := by decide

/-- The clause on the decoded stream: an aligned engine that has sent a byte before. -/
theorem witness_SentByteDecodesBack_stream :
    let s := { State.reset with sync := true, latches := [⟨2, false, true, .ready⟩, ⟨8, false, true, .ready⟩] }
    s.Ready ∧ s.Undisturbed ∧ s.pins.getLsbD 2 = false ∧ s.sync = true ∧ (syncNibbles s.latches).length % 2 = 0 := by
  decide

/-- Both clauses: CTL holding all its bits, and CTL UNSET. -/
theorem witness_DisplayTogglesRewriteCtl :
    ((mirrored 0x07 0x03).Ready ∧ (mirrored 0x07 0x03).Undisturbed ∧ (mirrored 0x07 0x03).ctl = .value 0x07) ∧
    (State.reset.Ready ∧ State.reset.Undisturbed ∧ State.reset.ctl = .unset) := by decide

theorem witness_EntryTogglesRewriteEms :
    ((mirrored 0x07 0x03).Ready ∧ (mirrored 0x07 0x03).Undisturbed ∧ (mirrored 0x07 0x03).ems = .value 0x03) ∧
    (State.reset.Ready ∧ State.reset.Undisturbed ∧ State.reset.ems = .unset) := by decide

/-- The last entry of each toggle statement's list is in it. -/
theorem witness_toggle_lists (a b : Byte) :
    ((Instr.blinkOn a b, (0b01011 : BitVec 5), fun x : Byte => x ||| 0x01) ∈
      [(Instr.displayOff a b, (0b00110 : BitVec 5), fun x : Byte => x &&& 0xFB),
        (.displayOn a b, 0b00111, fun x => x ||| 0x04), (.cursorOff a b, 0b01000, fun x => x &&& 0xFD),
        (.cursorOn a b, 0b01001, fun x => x ||| 0x02), (.blinkOff a b, 0b01010, fun x => x &&& 0xFE),
        (.blinkOn a b, 0b01011, fun x => x ||| 0x01)]) ∧
    ((Instr.autoscrollOff a b, (0b10001 : BitVec 5), fun x : Byte => x &&& 0xFE) ∈
      [(Instr.leftToRight a b, (0b01110 : BitVec 5), fun x : Byte => x ||| 0x02),
        (.rightToLeft a b, 0b01111, fun x => x &&& 0xFD), (.autoscrollOn a b, 0b10000, fun x => x ||| 0x01),
        (.autoscrollOff a b, 0b10001, fun x => x &&& 0xFE)]) := by simp

theorem witness_BacklightForcesOneTransfer :
    State.reset.Ready ∧ State.reset.Undisturbed ∧ State.reset.pins.getLsbD 2 = false ∧
    (Instr.backlightOn 0 0, (0b10011 : BitVec 5), true, (0x08 : Byte)) ∈
      [(Instr.backlightOff 0 0, (0b10010 : BitVec 5), false, (0x00 : Byte)), (.backlightOn 0 0, 0b10011, true, 0x08)] := by
  decide

/-- Both clauses: without and with OLED. The row offsets are also what INIT and SET_CURSOR ask for. -/
theorem witness_ClearWaitsThenRepositionsOled :
    (State.reset.Ready ∧ State.reset.Undisturbed ∧ State.reset.rowoff = rowOffsets State.reset.cfg ∧
      State.reset.oled = false) ∧
    (let s := { State.reset with oled := true }
     s.Ready ∧ s.Undisturbed ∧ s.rowoff = rowOffsets s.cfg ∧ s.oled = true) := by decide

theorem witness_InitRunsHandshake :
    State.reset.Ready ∧ State.reset.Undisturbed ∧ State.reset.rowoff = rowOffsets State.reset.cfg ∧
    State.reset.fn = fnInit State.reset.cfg := by decide

/-- In range, clamped, and wrapped: the bytes of R164's and R165's examples. -/
theorem witness_SetCursorSendsClampedAddress :
    (0xC3 : Byte).toNat = cursorByte Config.vectors 3 1 ∧ (0xC0 : Byte).toNat = cursorByte Config.vectors 0 255 ∧
    (0xC8 : Byte).toNat = cursorByte Config.vectors 200 0 ∧
    (0x80 : Byte).toNat = cursorByte (shaped 1 .d5x8) 128 255 := by decide

/-- The first row that is clamped, and the last. -/
theorem witness_CursorClampsRowWrapsColumn :
    State.reset.Ready ∧ State.reset.cfg.rows.toNat ≤ (2 : Byte).toNat ∧
    State.reset.cfg.rows.toNat ≤ (255 : Byte).toNat := by decide

theorem witness_CreateCharSendsSlotAndRows :
    (0x78 : Byte).toNat = 0x40 + (7 : Byte).toNat % 8 * 8 ∧ (0x48 : Byte).toNat = 0x40 + (9 : Byte).toNat % 8 * 8 ∧
    (0x78 : Byte).toNat = 0x40 + (255 : Byte).toNat % 8 * 8 := by decide

theorem witness_StubsOnlyAnswerZero :
    (Instr.stubDelay 1 2, (0b11010 : BitVec 5)) ∈
      [(Instr.stubContrast 1 2, (0b10110 : BitVec 5)), (.stubBargraph 1 2, 0b10111), (.stubKeypad 1 2, 0b11000),
        (.stubStatus 1 2, 0b11001), (.stubDelay 1 2, 0b11010)] := by decide

/-- INIT's micro-program without its DONE, in the machine of the test vectors. -/
def initBody : List MicroOp := (initOps State.reset.fn false 0x80).dropLast

/-- The run of INIT that InitDecodesToSequence and InitIsIdempotent speak of exists. -/
theorem witness_InitDecodesToSequence : ∃ u, RunsTo (.init 0 0) State.reset (initLength State.reset.oled) u :=
  ⟨_, runsTo_accept (ops := initBody) (r := 0) witness_Idle.1 witness_Idle.2 rfl (by decide) (by decide)⟩

/-- The clause on the decoded stream: INIT again, after a first INIT and a WRITE. -/
theorem witness_InitDecodesToSequence_stream :
    let s := { State.reset with latches := initNibbles ++ [⟨4, true, true, .ready⟩, ⟨1, true, true, .ready⟩] }
    (syncNibbles s.latches).length % 2 = 0 ∧ s.rowoff = rowOffsets s.cfg ∧ s.fn = fnInit s.cfg ∧
      ∃ u, RunsTo (.init 0 0) s (initLength s.oled) u :=
  ⟨by decide, rfl, rfl, _, runsTo_accept (ops := initBody) (r := 0) (by decide) (by decide) rfl (by decide) (by decide)⟩

theorem witness_ByteFormsSendTheirByte :
    encode .clearDisplay = .byte false 0x01 ∧ encode (.setDdramAddr 0x7F) = .byte false 0xFF ∧
    encode (.data 0x00) = .byte true 0x00 := by decide

/-- For AcceptedRequestRunsToDone, EveryRequestIsWellPulsed and OnlyInitEntersPhases (INIT and another request). -/
theorem witness_AcceptedRequestRunsToDone :
    (∃ t, exec (.init 0 0) State.reset = .next t ∧ t.busy = true) ∧
    (∃ t, exec (.createChar 7 0 0) State.reset = .next t ∧ t.busy = true) :=
  ⟨⟨_, rfl, rfl⟩, ⟨_, rfl, rfl⟩⟩

/-- A byte of BACKLIGHT_ON, of BACKLIGHT_OFF and of another request. -/
theorem witness_BacklightOnEveryByte :
    (∃ t, exec (.backlightOn 0 0) State.reset = .next t ∧ t.busy = true ∧
      .xfer 0x27 0x08 ∈ busEvents State.reset.cfg.addr7 State.reset.bl t.prog) ∧
    (∃ t, exec (.backlightOff 0 0) State.reset = .next t ∧ t.busy = true ∧
      .xfer 0x27 0x00 ∈ busEvents State.reset.cfg.addr7 State.reset.bl t.prog) ∧
    (∃ t, exec (.command 0x0F 0) State.reset = .next t ∧ t.busy = true ∧
      .xfer 0x27 0xFC ∈ busEvents State.reset.cfg.addr7 State.reset.bl t.prog) :=
  ⟨⟨_, rfl, rfl, by decide⟩, ⟨_, rfl, rfl, by decide⟩, ⟨_, rfl, rfl, by decide⟩⟩

/-- A step that changes each of the five registers, with no reset due. -/
theorem witness_RegistersChangeOnlyByTheirMicroOperation :
    (∃ t, step (running (.enter .ready)) = .next t ∧ t.phase ≠ State.reset.phase) ∧
    (∃ t, step (running (.setReg (.ctl 4))) = .next t ∧ t.ctl ≠ State.reset.ctl) ∧
    (∃ t, step (running (.setReg (.ems 2))) = .next t ∧ t.ems ≠ State.reset.ems) ∧
    (∃ t, step (running (.setReg (.bl false))) = .next t ∧ t.bl ≠ State.reset.bl) ∧
    (∃ t, step (running (.setReg (.oled true))) = .next t ∧ t.oled ≠ State.reset.oled) ∧
    (running (.enter .ready)).env = [] :=
  ⟨⟨_, rfl, by decide⟩, ⟨_, rfl, by decide⟩, ⟨_, rfl, by decide⟩, ⟨_, rfl, by decide⟩, ⟨_, rfl, by decide⟩, rfl⟩

theorem witness_ResponseIsOneForWriteOnly :
    (∃ t, exec (.write 0x41 0) State.reset = .next t ∧ t.busy = true ∧ .done 1 ∈ t.prog) ∧
    (∃ t, exec (.data 0x41) State.reset = .next t ∧ t.busy = true ∧ .done 1 ∈ t.prog) ∧
    (∃ t, exec (.home 0 0) State.reset = .next t ∧ t.busy = true ∧ .done 0 ∈ t.prog) :=
  ⟨⟨_, rfl, rfl, by decide⟩, ⟨_, rfl, rfl, by decide⟩, ⟨_, rfl, rfl, by decide⟩⟩

/-- The first INIT after reset, its mirror UNSET, and a toggle of each mirror whose mirror alone holds a value. -/
theorem witness_TransfersAndWaitSums :
    (State.reset.Ready ∧ State.reset.ctl = .unset ∧ toggleRegister (.init 0 0) = none) ∧
    (let s := { State.reset with ctl := .value 0x07 }
     s.Ready ∧ toggleRegister (.blinkOn 0 0) = some .ctl ∧ s.mirror .ctl ≠ .unset) ∧
    (let s := { State.reset with ems := .value 0x03 }
     s.Ready ∧ toggleRegister (.autoscrollOff 0 0) = some .ems ∧ s.mirror .ems ≠ .unset) := by decide

/-- A request of two micro-operations, run to its end from E low. -/
theorem witness_EnableLowBetweenRequests :
    ∃ t u, exec (.setOled 1 0) State.reset = .next t ∧ t.busy = true ∧ State.reset.last.getLsbD 2 = false ∧
      Host.Core.run Sys2Proof.core t.prog.length t = .next u :=
  ⟨_, _, rfl, rfl, by decide, rfl⟩

/-- A step of a faulted and refused machine: only a reset moves it. -/
theorem witness_StickyBitsAndTraceOnlyGrow :
    let s := { faulty with refused := true, env := [.rst] }
    (∃ t, step s = .next t) ∧ s.faulted = true ∧ s.refused = true := ⟨⟨_, rfl⟩, rfl, rfl⟩

theorem witness_DecodeOfEncode :
    (Instr.reservedRsv 26 7 0xFF 0xFF).WellFormed ∧ (Instr.createChar 0xFF 0xFF 0xFFFFFFFFFFFFFFFF).WellFormed ∧
    (Instr.setCgramAddr 0x3F).WellFormed := by decide

/-- Both sides of the reserved boundary. -/
theorem witness_ReservedWordsDecode :
    isReserved (decodeReq 0xD7FFFF 0) = true ∧ isReserved (decodeReq 0xD0FFFF 0) = false ∧
    isReserved (decodeReq 0xD80000 0) = true := by decide

theorem witness_CommandBytesDecode : (1 : Byte) ≠ 0 ∧ (0xFF : Byte) ≠ 0 := by decide

end Sys2Proof.Tests
end

section
/-! PROOF. The values computed from a configuration (00_scope.md R8): an equation for each case of `FN_INIT`, the row
offsets as numbers, and the clamp bound as a minimum. -/

namespace Sys2Proof.Machine

/-- More than one row: the N bit alone, whatever font is asked for (R8, 90 C3). -/
theorem fnInit_of_one_lt_rows {c : Config} (h : 1 < c.rows) : fnInit c = 0x08 := by
  have hfont : ¬(c.dots = .d5x10 ∧ c.rows = 1) := fun hc => BitVec.ne_of_lt h hc.2.symm
  rw [fnInit, if_pos h, if_neg hfont]
  rfl

theorem fnInit_of_one_row_d5x8 {c : Config} (hr : c.rows = 1) (hd : c.dots = .d5x8) : fnInit c = 0x00 := by
  simp [fnInit, hr, hd]

theorem fnInit_of_one_row_d5x10 {c : Config} (hr : c.rows = 1) (hd : c.dots = .d5x10) : fnInit c = 0x04 := by
  simp [fnInit, hr, hd, flagTallFont]

theorem rowOffsets_eq (c : Config) : rowOffsets c = ⟨0x00, 0x40, c.cols, 0x40 + c.cols⟩ := by
  simp [rowOffsets]

theorem rowsEff_toNat (c : Config) : (rowsEff c).toNat = min c.rows.toNat 4 := by
  unfold rowsEff
  split
  case isTrue h => exact (Nat.min_eq_left (BitVec.le_def.mp h)).symm
  case isFalse h => exact (Nat.min_eq_right (BitVec.lt_def.mp (BitVec.not_le.mp h)).le).symm

/-- Settles O13: one lemma for each computed value. -/
theorem configurationValues : Obligations.ConfigurationValues := by
  intro c _
  exact ⟨fun h => fnInit_of_one_lt_rows (BitVec.lt_def.mpr h), fnInit_of_one_row_d5x8, fnInit_of_one_row_d5x10,
    rowOffsets_eq c, rowsEff_toNat c⟩

end Sys2Proof.Machine
end

section
/-! PROOF. What an accepted micro-program is made of (40_bus_strobe.md R100 to R104): INIT's, or at most one SETREG, then
transfers and waits, then the one DONE. -/

namespace Sys2Proof.Machine

/-- A transfer whose value has R/W and the backlight bit low, or a wait: all that STROBE and SEND are made of. -/
def MicroOp.onBus : MicroOp → Bool
  | .xfer v => !pinRw v && !pinBl v
  | .wait _ => true
  | _ => false

@[simp] theorem wait_onBus (t : Micros) : (MicroOp.wait t).onBus = true := rfl

theorem ok_of_onBus {m : MicroOp} (h : m.onBus = true) : m.ok = true := by
  cases m with
  | xfer v => exact h
  | wait t => rfl
  | _ => cases h

theorem onBus_writes_nothing {m : MicroOp} (h : m.onBus = true) :
    m.isDone = false ∧ m.entered = none ∧ m.setsBacklight = false := by
  cases m with
  | xfer v => exact ⟨rfl, rfl, rfl⟩
  | wait t => exact ⟨rfl, rfl, rfl⟩
  | _ => cases h

theorem strobe_onBus {n : Byte} (h : n &&& 0x0E = 0) : ∀ m ∈ strobe n, m.onBus = true := by
  have pins : ∀ n : Byte, n &&& 0x0E = 0 → (strobe n).all MicroOp.onBus = true := by decide
  exact List.all_eq_true.mp (pins n h)

theorem send_onBus (b : Byte) (m : Mode) : ∀ x ∈ send b m, x.onBus = true := by
  obtain ⟨hhi, hlo⟩ := nibbles_low b m.isData
  rw [send_eq]
  exact List.forall_mem_append.mpr ⟨strobe_onBus hhi, strobe_onBus hlo⟩

theorem clearOps_onBus (oled : Bool) (c : Byte) : ∀ m ∈ clearOps oled c, m.onBus = true := by
  refine List.forall_mem_append.mpr ⟨List.forall_mem_append.mpr ⟨send_onBus _ _, by simp⟩, ?_⟩
  cases oled with
  | false => simp
  | true => exact send_onBus _ _

theorem clearOps_length_le (oled : Bool) (c : Byte) : (clearOps oled c).length ≤ 125 := by
  cases oled <;> simp [clearOps]

theorem homeOps_onBus : ∀ m ∈ homeOps, m.onBus = true :=
  List.forall_mem_append.mpr ⟨send_onBus _ _, by simp⟩

theorem glyphOps_onBus (g : Glyph) : ∀ m ∈ glyphOps g, m.onBus = true := by
  intro m hm
  obtain ⟨i, -, hi⟩ := List.mem_flatMap.mp hm
  exact send_onBus _ _ m hi

/-- The micro-program of a request other than INIT without its DONE: transfers and waits, after one SETREG or none. A
mirror value it writes is in its register's bits as far as the mirror of `s` was. -/
inductive RequestBody (s : State) : List MicroOp → Prop where
  | bus {ops : List MicroOp} (hbus : ∀ m ∈ ops, m.onBus = true) (hlen : ops.length ≤ 125) : RequestBody s ops
  | setReg {w : RegWrite} {ops : List MicroOp} (hok : s.Inv → (MicroOp.setReg w).ok = true)
      (hbus : ∀ m ∈ ops, m.onBus = true) (hlen : ops.length ≤ 125) : RequestBody s (.setReg w :: ops)

/-- The response of an instruction's DONE (10_state.md R26). -/
def response : Instr → Byte
  | .write _ _ => 1
  | .data _ => 1
  | _ => 0

theorem accept_prog {p : List MicroOp} {s t : State} (hs : s.Ready) (h : accept p s = .next t) : t.prog = p := by
  rw [accept, whenReady_ready hs] at h
  cases h
  rfl

/-- A mask in a register's bits changes no other bit of it (43_mirror_toggles.md R144). -/
theorem toggled_in_bits {u mask x : Byte} (op : ToggleOp) (hm : mask &&& u = 0) (hx : x &&& u = 0) :
    toggled op mask x &&& u = 0 := by
  cases op with
  | set => rw [toggled, BitVec.and_or_distrib_right, hm, hx]; rfl
  | clear => rw [toggled, BitVec.and_assoc, BitVec.and_comm _ u, ← BitVec.and_assoc, hx]; exact BitVec.zero_and

/-- The invariant of the mirror register that a toggle reads. -/
theorem State.Inv.mirror {s : State} (h : s.Inv) : ∀ r, mirrorOk r (s.mirror r) = true
  | .ctl => h.ctl
  | .ems => h.ems

theorem ok_setReg_write (r : MirrorReg) (v : Byte) :
    (MicroOp.setReg (r.write v)).ok = mirrorOk r (.value v) := by
  cases r <;> rfl

/-- A toggle runs its SETREG, in the bits of its register, and its SEND (R144). -/
theorem acceptToggle_body {r : MirrorReg} {op : ToggleOp} {mask : Byte} {w : ReqWord} {s t : State}
    (hm : mask &&& ~~~r.used = 0) (hs : s.Ready) (h : acceptToggle r op mask w s = .next t) (hb : t.busy = true) :
    ∃ ops, RequestBody s ops ∧ t.prog = ops ++ [.done 0] := by
  rw [acceptToggle, whenReady_ready hs] at h
  cases h
  rcases toggle_cases s r op mask w with ⟨-, ht⟩ | ⟨x, hx, ht⟩ <;> rw [ht] at hb ⊢
  · exact absurd (hs.2.2.symm.trans hb) Bool.false_ne_true
  · refine ⟨_, .setReg (fun hi => ?_) (send_onBus (r.base ||| toggled op mask x) .cmd) (by simp), rfl⟩
    have hr := hi.mirror r
    rw [hx] at hr
    rw [ok_setReg_write]
    exact beq_iff_eq.mpr (toggled_in_bits op hm (beq_iff_eq.mp hr))

theorem acceptReserved_idle {w : ReqWord} {s t : State} (hs : s.Ready) (h : acceptReserved w s = .next t) :
    t.busy = false := by
  rw [acceptReserved, whenReady_ready hs] at h
  cases h
  exact hs.2.2

/-- A request that sends one byte. -/
theorem accept_send_body {b : Byte} {m : Mode} {r : Byte} {s t : State} (hs : s.Ready)
    (h : accept (send b m ++ [.done r]) s = .next t) : ∃ ops, RequestBody s ops ∧ t.prog = ops ++ [.done r] :=
  ⟨send b m, .bus (send_onBus b m) (by simp), accept_prog hs h⟩

/-- What an accepted instruction runs: INIT's micro-program, or its body and then the DONE with its response. -/
theorem accepted_prog {i : Instr} {s t : State} (hs : s.Ready) (h : exec i s = .next t) (hb : t.busy = true) :
    (∃ a b, i = .init a b ∧ t.prog = initOps s.fn s.oled (cursorCommand s.cfg s.rowoff 0 0)) ∨
    ((∀ a b, i ≠ .init a b) ∧ ∃ ops, RequestBody s ops ∧ t.prog = ops ++ [.done (response i)]) := by
  cases i
  case init a b => exact .inl ⟨a, b, rfl, accept_prog hs h⟩
  all_goals refine .inr ⟨fun _ _ => nofun, ?_⟩
  case command | write | setCursor | scrollLeft | scrollRight | clearDisplay | returnHome | entryModeSet
    | displayControl | cursorShift | functionSet | setCgramAddr | setDdramAddr | data =>
    exact accept_send_body hs h
  case displayOff | displayOn | cursorOff | cursorOn | blinkOff | blinkOn =>
    exact acceptToggle_body (r := .ctl) (by decide) hs h hb
  case leftToRight | rightToLeft | autoscrollOn | autoscrollOff =>
    exact acceptToggle_body (r := .ems) (by decide) hs h hb
  case reservedOp27 | reservedOp28To31 | reservedRsv =>
    exact absurd ((acceptReserved_idle hs h).symm.trans hb) Bool.false_ne_true
  case stubContrast | stubBargraph | stubKeypad | stubStatus | stubDelay =>
    exact ⟨[], .bus (by simp) (by simp), accept_prog hs h⟩
  case backlightOff | backlightOn =>
    exact ⟨_, .setReg (ops := [.xfer 0]) (fun _ => rfl) (by simp [MicroOp.onBus, pinRw, pinBl]) (by simp),
      accept_prog hs h⟩
  case setOled => exact ⟨_, .setReg (ops := []) (fun _ => rfl) (by simp) (by simp), accept_prog hs h⟩
  case initNibble8Bit | initNibble4Bit =>
    exact ⟨_, .bus (strobe_onBus (by decide)) (by simp), accept_prog hs h⟩
  case clear =>
    exact ⟨_, .bus (clearOps_onBus _ _) (clearOps_length_le _ _), accept_prog hs h⟩
  case home => exact ⟨_, .bus homeOps_onBus (by decide), accept_prog hs h⟩
  case createChar a b g =>
    exact ⟨_, .bus (List.forall_mem_append.mpr ⟨send_onBus _ _, glyphOps_onBus g⟩) (by simp [glyphOps]),
      accept_prog hs h⟩

end Sys2Proof.Machine
end

section
/-! PROOF. The form of every accepted micro-program (10_state.md R24, 40_bus_strobe.md R100): its length, its one DONE, the
states it enters, the values it transfers, and where it writes the backlight. -/

namespace Sys2Proof.Machine

theorem endsInDone_append_done {ops : List MicroOp} (h : ∀ m ∈ ops, m.isDone = false) (r : Byte) :
    endsInDone (ops ++ [.done r]) = true := by
  induction ops with
  | nil => rfl
  | cons m ops ih =>
    obtain ⟨hm, hops⟩ := List.forall_mem_cons.mp h
    have hrest := ih hops
    cases ops <;> simp_all [endsInDone]

theorem backlightFirst_of_no_write {ops : List MicroOp} (h : ∀ m ∈ ops, m.setsBacklight = false) :
    backlightFirst ops = true := by
  induction ops with
  | nil => rfl
  | cons m ops ih =>
    have hops := (List.forall_mem_cons.mp h).2
    cases m with
    | xfer v => simpa [backlightFirst] using hops
    | _ => exact ih hops

namespace RequestBody

variable {s : State} {ops : List MicroOp}

theorem length_le (h : RequestBody s ops) : ops.length ≤ 126 := by
  cases h with
  | bus _ hlen => omega
  | setReg _ _ hlen => exact Nat.succ_le_succ hlen

/-- No DONE and no ENTER stands in the body of a request. -/
theorem no_done_no_enter (h : RequestBody s ops) : ∀ m ∈ ops, m.isDone = false ∧ m.entered = none := by
  have onBus {m : MicroOp} (hm : m.onBus = true) : m.isDone = false ∧ m.entered = none :=
    ⟨(onBus_writes_nothing hm).1, (onBus_writes_nothing hm).2.1⟩
  cases h with
  | bus hbus _ => exact fun m hm => onBus (hbus m hm)
  | setReg _ hbus _ => exact List.forall_mem_cons.mpr ⟨⟨rfl, rfl⟩, fun m hm => onBus (hbus m hm)⟩

theorem all_ok (h : RequestBody s ops) (hi : s.Inv) : ∀ m ∈ ops, m.ok = true := by
  cases h with
  | bus hbus _ => exact fun m hm => ok_of_onBus (hbus m hm)
  | setReg hok hbus _ => exact List.forall_mem_cons.mpr ⟨hok hi, fun m hm => ok_of_onBus (hbus m hm)⟩

/-- A request's one SETREG comes before its transfers (20_memory.md R39). -/
theorem backlightFirst_done (h : RequestBody s ops) (r : Byte) : backlightFirst (ops ++ [.done r]) = true := by
  have onBus {ops : List MicroOp} (hbus : ∀ m ∈ ops, m.onBus = true) : backlightFirst (ops ++ [.done r]) = true := by
    refine backlightFirst_of_no_write (List.forall_mem_append.mpr ⟨fun m hm => ?_, by simp [MicroOp.setsBacklight]⟩)
    exact (onBus_writes_nothing (hbus m hm)).2.2
  cases h with
  | bus hbus _ => exact onBus hbus
  | @setReg _ rest _ hbus _ => exact onBus (ops := rest) hbus

theorem programOk_done (h : RequestBody s ops) (hi : s.Inv) (r : Byte) : programOk (ops ++ [.done r]) = true := by
  have hlen : (ops ++ [MicroOp.done r]).length ≤ 127 := by simpa using Nat.succ_le_succ h.length_le
  have hdone := endsInDone_append_done (fun m hm => (h.no_done_no_enter m hm).1) r
  have hok := List.all_eq_true.mpr (h.all_ok hi)
  simp only [programOk, hlen, hdone, List.all_append, hok]
  rfl

end RequestBody

theorem send_all_ok (b : Byte) (m : Mode) : (send b m).all MicroOp.ok = true :=
  List.all_eq_true.mpr fun x hx => ok_of_onBus (send_onBus b m x hx)

theorem initOps_all_ok (fn : Byte) (oled : Bool) (c : Byte) : (initOps fn oled c).all MicroOp.ok = true := by
  have hhandshake : handshakeOps.all MicroOp.ok = true := by decide
  have hclear : (clearOps oled c).all MicroOp.ok = true :=
    List.all_eq_true.mpr fun m hm => ok_of_onBus (clearOps_onBus oled c m hm)
  have hhome : homeOps.all MicroOp.ok = true :=
    List.all_eq_true.mpr fun m hm => ok_of_onBus (homeOps_onBus m hm)
  simp only [initOps, setupOps, List.all_append, hhandshake, hclear, hhome, send_all_ok]
  rfl

theorem initOps_programOk (fn : Byte) (oled : Bool) (c : Byte) : programOk (initOps fn oled c) = true := by
  have hlen : (initOps fn oled c).length ≤ 127 := by
    cases oled <;> simp [initOps, handshakeOps, setupOps, clearOps, homeOps]
  have hdone : endsInDone (initOps fn oled c) = true := by cases oled <;> rfl
  simp [programOk, hlen, hdone, initOps_all_ok]

theorem initOps_backlightFirst (fn : Byte) (oled : Bool) (c : Byte) : backlightFirst (initOps fn oled c) = true := by
  have hall : (initOps fn oled c).all (fun m => !m.setsBacklight) = true := by cases oled <;> rfl
  exact backlightFirst_of_no_write (by simpa using hall)

/-- INIT enters the twelve states in ascending order (42_init.md R126). -/
theorem initOps_entered (fn : Byte) (oled : Bool) (c : Byte) :
    ((initOps fn oled c).filterMap MicroOp.entered).map Phase.code = [0, 1, 2, 3, 4, 5, 6, 7, 8, 9, 10, 11] := by
  cases oled <;> rfl

theorem initOps_done (fn : Byte) (oled : Bool) (c : Byte) :
    ∀ m ∈ initOps fn oled c, m.isDone = true → m = .done 0 := by
  have hall : (initOps fn oled c).all (fun m => !m.isDone || m == .done 0) = true := by cases oled <;> rfl
  intro m hm hd
  simpa [hd] using List.all_eq_true.mp hall m hm

/-- Settles O45: INIT's micro-program is in form, and so is every body with its DONE. -/
theorem acceptedProgramsInForm : Obligations.AcceptedProgramsInForm := by
  intro i s t hs hi h hb
  rcases accepted_prog hs h hb with ⟨a, b, -, hp⟩ | ⟨-, ops, hbody, hp⟩ <;> rw [hp]
  · exact ⟨initOps_programOk _ _ _, initOps_backlightFirst _ _ _⟩
  · exact ⟨hbody.programOk_done hi _, hbody.backlightFirst_done _⟩

/-- Settles O47: only INIT's micro-program holds an ENTER. -/
theorem onlyInitEntersPhases : Obligations.OnlyInitEntersPhases := by
  intro i s t hs h hb
  rcases accepted_prog hs h hb with ⟨a, b, rfl, hp⟩ | ⟨hi, ops, hbody, hp⟩ <;> rw [hp]
  · exact initOps_entered _ _ _
  · have hnone : ops.filterMap MicroOp.entered = [] :=
      List.filterMap_eq_nil_iff.mpr fun m hm => (hbody.no_done_no_enter m hm).2
    rw [List.filterMap_append, hnone]
    split
    · exact absurd rfl (hi _ _)
    · rfl

/-- Settles O49: the one DONE is the last micro-operation, and it carries the instruction's response. -/
theorem responseIsOneForWriteOnly : Obligations.ResponseIsOneForWriteOnly := by
  intro i s t r hs h hb hr
  show r = response i
  rcases accepted_prog hs h hb with ⟨a, b, rfl, hp⟩ | ⟨-, ops, hbody, hp⟩ <;> rw [hp] at hr
  · exact MicroOp.done.inj (initOps_done _ _ _ _ hr rfl)
  · rcases List.mem_append.mp hr with hr | hr
    · exact absurd (hbody.no_done_no_enter _ hr).1 Bool.false_ne_true.symm
    · exact MicroOp.done.inj (List.mem_singleton.mp hr)

end Sys2Proof.Machine
end

section
/-! PROOF. What one step can change: the next state of a step written as one named update, and from that the frames of the
step (10_state.md R13, R22, R25, R28, R31; 20_memory.md R37). -/

namespace Sys2Proof.Machine

/-- The micro-operation at UPC is what a running engine performs (R25). -/
theorem engineStep_running {s : State} {m : MicroOp} (hr : s.Running) (hm : s.prog[s.upc.toNat]? = some m) (d : Draw) :
    engineStep d s = .next (s.perform d m) := by
  obtain ⟨hc, hf, hb, hst⟩ := hr
  simp [engineStep, performNext, hc, hf, hb, hst, hm]

/-- All that an instruction's acceptance can answer with a next state. -/
theorem exec_next_cases {i : Instr} {s t : State} (h : exec i s = .next t) (hs : s.Ready) :
    (∃ p, t = s.load p) ∨ (∃ w, t = s.raiseFault .mirrorUnset w) ∨ (∃ w, t = s.refuse .reservedEncoding (some w)) := by
  obtain ⟨k, hk, hcases⟩ := exec_cases i s
  rw [hk, whenReady_ready hs] at h
  cases h
  rcases hcases with hp | ⟨w, hw, -⟩ | ⟨w, hw, -⟩
  · exact .inl hp
  · exact .inr (.inl ⟨w, hw⟩)
  · exact .inr (.inr ⟨w, hw⟩)

/-- A step of the machine in three cases: the two resets, or the engine's step with the environment's list as it is left
(60_exceptions.md R192). -/
theorem step_next_cases {s t : State} (h : step s = .next t) :
    (∃ es, s.env = .rst :: es ∧ t = { s with env := es }.engineReset) ∨
    (∃ es, t = { s with env := es }.ctrlReset) ∨
    (∃ d es, engineStep d { s with env := es } = .next t) := by
  rcases step_cases h with hrst | ⟨es, -, ht⟩ | ⟨henv, hstep⟩ | ⟨d, es, -, hstep⟩
  · exact .inl hrst
  · exact .inr (.inl ⟨es, ht⟩)
  · exact .inr (.inr ⟨.ack, s.env, hstep⟩)
  · exact .inr (.inr ⟨d, es, hstep⟩)

/-! ## A micro-operation -/

/-- What a micro-operation appends to the trace (20_memory.md R37, R38). -/
def State.emitted (s : State) : MicroOp → List BusEvent
  | .xfer v => [.xfer s.cfg.addr7 (s.busByte v)]
  | .wait t => [.wait t]
  | .busInit => [.busInit]
  | _ => []

theorem perform_tr (s : State) (d : Draw) (m : MicroOp) : (s.perform d m).tr = s.tr ++ s.emitted m := by
  cases m <;> cases d <;> simp [State.perform, State.await, State.emitted, State.busByte]

theorem emitted_cases (s : State) (m : MicroOp) : s.emitted m = [] ∨ ∃ e, s.emitted m = [e] := by
  cases m with
  | xfer v => exact .inr ⟨_, rfl⟩
  | wait t => exact .inr ⟨_, rfl⟩
  | busInit => exact .inr ⟨_, rfl⟩
  | _ => exact .inl rfl

/-- The five registers that ENTER and SETREG name: what a micro-operation changes, it names (R94, R95). -/
theorem perform_registers (s : State) (d : Draw) (m : MicroOp) :
    ((s.perform d m).phase = s.phase ∨ m = .enter (s.perform d m).phase) ∧
    ((s.perform d m).ctl = s.ctl ∨ ∃ v, (s.perform d m).ctl = .value v ∧ m = .setReg (.ctl v)) ∧
    ((s.perform d m).ems = s.ems ∨ ∃ v, (s.perform d m).ems = .value v ∧ m = .setReg (.ems v)) ∧
    ((s.perform d m).bl = s.bl ∨ m = .setReg (.bl (s.perform d m).bl)) ∧
    ((s.perform d m).oled = s.oled ∨ m = .setReg (.oled (s.perform d m).oled)) := by
  cases m with
  | setReg w => cases w <;> simp [State.perform, State.setReg]
  | _ => cases d <;> simp [State.perform, State.await]

/-- A micro-operation other than DONE leaves the program running; UPC advances, or the engine is stuck there (R25, R187). -/
theorem perform_progress {m : MicroOp} (hm : m.isDone = false) (s : State) (d : Draw) :
    (s.perform d m).prog = s.prog ∧ (s.perform d m).busy = s.busy ∧
    ((s.perform d m).upc = s.upc + 1 ∨ (s.perform d m).upc = s.upc) := by
  cases m with
  | done r => cases hm
  | _ => cases d <;> simp [State.perform, State.await]

/-! ## The statements -/

/-- Settles O2: a running engine's step, and what `perform` does to the control fields. -/
theorem stepPerformsMicroOperation : Obligations.StepPerformsMicroOperation := by
  intro s m hr hm
  refine ⟨fun henv => step_running hr henv hm, fun d es henv => ?_, fun hd => ?_⟩
  · have hstep : step s = engineStep d { s with env := es } := by rw [step, machineStep, henv]
    rw [hstep]
    exact engineStep_running (s := { s with env := es }) hr hm d
  · obtain ⟨hprog, hbusy, -, hupc⟩ := perform_control s m hd
    exact ⟨hupc, hprog, hbusy.trans hr.2.2.1⟩

/-- Settles O48: acceptance keeps the five registers, and a micro-operation changes only the one it names. -/
theorem registersChangeOnlyByTheirMicroOperation : Obligations.RegistersChangeOnlyByTheirMicroOperation := by
  intro s t h hrst
  rcases step_next_cases h with ⟨es, henv, -⟩ | ⟨es, rfl⟩ | ⟨d, es, hstep⟩
  · exact absurd henv (hrst es)
  · simp
  · rcases engineStep_cases hstep with ⟨m, -, hm, rfl⟩ | ⟨-, -, -, rfl⟩ | ⟨r, rest, hready, -, -, hexec⟩
    · have hm : s.prog[s.upc.toNat]? = some m := hm
      obtain ⟨hphase, hctl, hems, hbl, holed⟩ := perform_registers { s with env := es } d m
      rw [hm]
      exact ⟨fun hne => congrArg some (hphase.resolve_left hne),
        fun hne => (hctl.resolve_left hne).imp fun v hv => ⟨hv.1, congrArg some hv.2⟩,
        fun hne => (hems.resolve_left hne).imp fun v hv => ⟨hv.1, congrArg some hv.2⟩,
        fun hne => congrArg some (hbl.resolve_left hne), fun hne => congrArg some (holed.resolve_left hne)⟩
    · simp
    · rcases exec_next_cases hexec hready with ⟨p, rfl⟩ | ⟨w, rfl⟩ | ⟨w, rfl⟩ <;> simp

/-- Settles O54: neither a reset, a micro-operation nor an acceptance clears a sticky bit or takes an event back. -/
theorem stickyBitsAndTraceOnlyGrow : Obligations.StickyBitsAndTraceOnlyGrow := by
  intro s t h
  rcases step_next_cases h with ⟨es, -, rfl⟩ | ⟨es, rfl⟩ | ⟨d, es, hstep⟩
  · exact ⟨rfl, id, id, .inl rfl⟩
  · exact ⟨rfl, id, id, .inl rfl⟩
  · rcases engineStep_cases hstep with ⟨m, -, -, rfl⟩ | ⟨-, -, -, rfl⟩ | ⟨r, rest, hready, -, -, hexec⟩
    · obtain ⟨hcfg, -, -, -, -, hfaulted, hrefused, -, -⟩ := perform_keeps { s with env := es } d m
      refine ⟨hcfg, fun hf => hfaulted.trans hf, fun hf => hrefused.trans hf, ?_⟩
      rw [perform_tr]
      rcases emitted_cases { s with env := es } m with he | ⟨e, he⟩ <;> rw [he]
      · exact .inl (List.append_nil _)
      · exact .inr ⟨e, rfl⟩
    · exact ⟨rfl, id, id, .inl rfl⟩
    · rcases exec_next_cases hexec hready with ⟨p, rfl⟩ | ⟨w, rfl⟩ | ⟨w, rfl⟩ <;> simp

end Sys2Proof.Machine
end

section
/-! PROOF. The state after power-on and after `rst` (10_state.md R34, 60_exceptions.md R190), and the machine's invariant:
each update of the state that a step can be keeps it. -/

namespace Sys2Proof.Machine

/-! ## Power-on and reset -/

theorem powerOn_inv (c : Config) : (State.powerOn c).Inv where
  fn := rfl
  rowoff := rfl
  ctl := rfl
  ems := rfl
  running := nofun
  idle _ := ⟨rfl, rfl⟩
  stuck h := absurd rfl h
  faulted := nofun
  faultRec := rfl
  refusals := by cases h : configLegal c <;> simp [State.powerOn, h]
  config h := by simpa [State.powerOn] using h
  trace := rfl

/-- Settles O12: each register is a field of the state as power-on writes it. -/
theorem powerOnState : Obligations.PowerOnState := by
  intro c hc
  have hrefused : (State.powerOn c).refused = false := by simp [State.powerOn, hc]
  exact ⟨rfl, rfl, rfl, rfl, rfl, rfl, rfl, rfl, rfl, rfl, rowOffsets_eq c, rfl, rfl, rfl, hrefused, rfl⟩

/-- Settles O14: `rst` wins over the engine's step, and is the whole step. -/
theorem engineResetLoadsResetState : Obligations.EngineResetLoadsResetState := by
  intro s es henv
  rw [step, machineStep, henv]
  rfl

/-- Settles O53: State.reset is the power-on state of one configuration. -/
theorem powerOnMeetsInvariant : Obligations.PowerOnMeetsInvariant :=
  ⟨powerOn_inv, powerOn_inv Config.vectors⟩

/-! ## UPC inside the micro-program -/

/-- After a micro-operation other than DONE the program goes on: its DONE is its last (40_bus_strobe.md R100). -/
theorem endsInDone_succ_lt {p : List MicroOp} (hp : endsInDone p = true) {n : Nat} {m : MicroOp} (hm : p[n]? = some m)
    (hd : m.isDone = false) : n + 1 < p.length := by
  induction p generalizing n with
  | nil => cases hm
  | cons a rest ih =>
    cases n with
    | zero =>
      obtain rfl : a = m := by simpa using hm
      cases rest with
      | nil => exact absurd (hd.symm.trans hp) Bool.false_ne_true
      | cons b rest => simp
    | succ n =>
      have hrest : endsInDone rest = true := by
        cases rest with
        | nil => cases hm
        | cons b rest => exact (Bool.and_eq_true_iff.mp hp).2
      exact Nat.succ_lt_succ (ih hrest (by simpa using hm))

theorem endsInDone_of_programOk {p : List MicroOp} (h : programOk p = true) : endsInDone p = true := by
  simp only [programOk, Bool.and_eq_true] at h
  exact h.1.2

theorem length_le_of_programOk {p : List MicroOp} (h : programOk p = true) : p.length ≤ 127 := by
  simp only [programOk, Bool.and_eq_true, decide_eq_true_eq] at h
  exact h.1.1

theorem ok_of_programOk {p : List MicroOp} (h : programOk p = true) {n : Nat} {m : MicroOp} (hm : p[n]? = some m) :
    m.ok = true := by
  simp only [programOk, Bool.and_eq_true] at h
  exact List.all_eq_true.mp h.2 m (List.mem_of_getElem? hm)

theorem length_pos_of_programOk {p : List MicroOp} (h : programOk p = true) : 0 < p.length := by
  cases p with
  | nil => exact absurd (endsInDone_of_programOk h) Bool.false_ne_true
  | cons m p => simp

/-- After an answered or an unanswered micro-operation other than DONE, UPC is still inside the program (R25). -/
theorem perform_upc_lt {s : State} {m : MicroOp} (hp : programOk s.prog = true) (hm : s.prog[s.upc.toNat]? = some m)
    (hd : m.isDone = false) (d : Draw) : (s.perform d m).upc.toNat < s.prog.length := by
  have hnext := endsInDone_succ_lt (endsInDone_of_programOk hp) hm hd
  have hlen := length_le_of_programOk hp
  rcases (perform_progress hd s d).2.2 with hu | hu <;> rw [hu]
  · rw [upc_succ (by omega)]
    exact hnext
  · omega

/-! ## The mirror and the trace -/

/-- A micro-operation in form writes a mirror only in its bits (10_state.md R16, R17). -/
theorem perform_mirrorOk {s : State} {m : MicroOp} (hi : s.Inv) (hm : m.ok = true) (d : Draw) :
    mirrorOk .ctl (s.perform d m).ctl = true ∧ mirrorOk .ems (s.perform d m).ems = true := by
  obtain ⟨-, hctl, hems, -, -⟩ := perform_registers s d m
  constructor
  · rcases hctl with h | ⟨v, h, rfl⟩ <;> rw [h]
    · exact hi.ctl
    · exact hm
  · rcases hems with h | ⟨v, h, rfl⟩ <;> rw [h]
    · exact hi.ems
    · exact hm

/-- The backlight bit leaves R/W as it is (30_encoding.md R67). -/
theorem pinRw_or_blBits (v : Byte) (bl : Bool) : pinRw (v ||| blBits bl) = pinRw v := by
  revert v bl; decide

/-- A micro-operation in form emits only events to ADDR7 with R/W low (20_memory.md R40, R43). -/
theorem emitted_eventOk {m : MicroOp} (hm : m.ok = true) (s : State) :
    (s.emitted m).all (eventOk s.cfg.addr7) = true := by
  cases m with
  | xfer v =>
    have hrw : pinRw v = false := by
      simp only [MicroOp.ok, Bool.and_eq_true, Bool.not_eq_true'] at hm
      exact hm.1
    simp [State.emitted, State.busByte, eventOk, pinRw_or_blBits, hrw]
  | _ => rfl

/-! ## The updates of a step -/

namespace State.Inv

variable {s : State}

theorem clearPulse (h : s.Inv) : s.clearPulse.Inv := { h with }

theorem withEnv (h : s.Inv) (es : List EnvEvent) : { s with env := es }.Inv := { h with }

theorem withHost (h : s.Inv) (q : List Request) : { s with host := q }.Inv := { h with }

theorem ctrlReset (h : s.Inv) : s.ctrlReset.Inv := { h with }

theorem engineReset (h : s.Inv) : s.engineReset.Inv :=
  { h with
    fn := rfl
    rowoff := rfl
    ctl := rfl
    ems := rfl
    running := nofun
    idle := fun _ => ⟨rfl, rfl⟩
    stuck := fun hn => absurd rfl hn
    faulted := fun _ => rfl }

theorem load (h : s.Inv) (hf : s.faulted = false) {p : List MicroOp} (hp : programOk p = true) : (s.load p).Inv :=
  { h with
    running := fun _ => ⟨hp, length_pos_of_programOk hp⟩
    idle := nofun
    stuck := fun _ => rfl
    faulted := fun hf' => absurd (hf.symm.trans hf') Bool.false_ne_true }

theorem raiseFault (h : s.Inv) (hb : s.busy = false) (q : FaultReason) (w : ReqWord) : (s.raiseFault q w).Inv :=
  { h with
    faulted := fun _ => hb
    faultRec := rfl }

theorem refuse (h : s.Inv) (q : RefusalReason) (w : Option ReqWord) : (s.refuse q w).Inv :=
  { h with
    refusals := by simp
    config := fun _ => rfl }

/-- Acceptance keeps the invariant: what it loads is in form. -/
theorem exec (h : s.Inv) {i : Instr} {t : State} (hexec : Machine.exec i s = .next t) (hs : s.Ready) : t.Inv := by
  rcases exec_next_cases hexec hs with ⟨p, rfl⟩ | ⟨w, rfl⟩ | ⟨w, rfl⟩
  · exact h.load hs.2.1 (acceptedProgramsInForm i s _ hs h hexec rfl).1
  · exact h.raiseFault hs.2.2 _ _
  · exact h.refuse _ _

theorem finish (h : s.Inv) (hr : s.Running) (r : Byte) : (s.finish r).Inv :=
  { h with
    running := nofun
    idle := fun _ => ⟨rfl, rfl⟩
    stuck := fun hn => absurd hr.2.2.2 hn
    faulted := fun _ => rfl }

/-- A micro-operation keeps the invariant: DONE leaves an idle engine, and any other one UPC inside the program. -/
theorem perform (h : s.Inv) (hr : s.Running) {m : MicroOp} (hm : s.prog[s.upc.toNat]? = some m) (d : Draw) :
    (s.perform d m).Inv := by
  obtain ⟨hp, -⟩ := h.running hr.2.2.1
  have hok := ok_of_programOk hp hm
  cases hd : m.isDone with
  | true =>
    cases m with
    | done r => exact h.finish hr r
    | _ => cases hd
  | false =>
    obtain ⟨hcfg, hfn, hrowoff, -, -, hfaulted, hrefused, hfaultRec, hrefusals⟩ := perform_keeps s d m
    obtain ⟨hprog, hbusy, -⟩ := perform_progress hd s d
    obtain ⟨hctl, hems⟩ := perform_mirrorOk h hok d
    have hbusy : (s.perform d m).busy = true := hbusy.trans hr.2.2.1
    exact
      { fn := by rw [hfn, hcfg]; exact h.fn
        rowoff := by rw [hrowoff, hcfg]; exact h.rowoff
        ctl := hctl
        ems := hems
        running := fun _ => by rw [hprog]; exact ⟨hp, perform_upc_lt hp hm hd d⟩
        idle := fun hb => absurd (hb.symm.trans hbusy) Bool.false_ne_true
        stuck := fun _ => hbusy
        faulted := fun hf => absurd ((hfaulted.trans hr.2.1).symm.trans hf) Bool.false_ne_true
        faultRec := by rw [hfaultRec, hfaulted]; exact h.faultRec
        refusals := by rw [hrefusals, hrefused]; exact h.refusals
        config := by rw [hcfg, hrefused]; exact h.config
        trace := by rw [perform_tr, hcfg, List.all_append, h.trace, emitted_eventOk hok]; rfl }

theorem engineStep (h : s.Inv) {d : Draw} {t : State} (hstep : Machine.engineStep d s = .next t) : t.Inv := by
  rcases engineStep_cases hstep with ⟨m, hr, hm, rfl⟩ | ⟨-, -, -, rfl⟩ | ⟨r, rest, hs, -, -, hexec⟩
  · exact h.perform hr hm d
  · exact h.clearPulse
  · exact (h.clearPulse.withHost rest).exec hexec hs

end State.Inv

/-- Settles O52: each of the three kinds of step keeps the invariant. -/
theorem stepKeepsInvariant : Obligations.StepKeepsInvariant := by
  intro s t h hstep
  rcases step_next_cases hstep with ⟨es, -, rfl⟩ | ⟨es, rfl⟩ | ⟨d, es, hengine⟩
  · exact (h.withEnv es).engineReset
  · exact (h.withEnv es).ctrlReset
  · exact (h.withEnv es).engineStep hengine

end Sys2Proof.Machine
end

section
/-! PROOF. SYNC and the ghosts of the pins influence nothing else (10_state.md R29, R30): every operation of a step,
performed with the ghosts erased, ends as it does with them, but for the ghosts. -/

namespace Sys2Proof.Machine

/-- An acceptance whose effect commutes with erasing the ghosts. -/
theorem whenReady_eraseGhosts {s : State} {k k' : State → State}
    (h : (k s).eraseGhosts = (k' s.eraseGhosts).eraseGhosts) :
    mapNext State.eraseGhosts (whenReady s k) = mapNext State.eraseGhosts (whenReady s.eraseGhosts k') := by
  have hconfig : configLegal s.eraseGhosts.cfg = configLegal s.cfg := rfl
  have hfaulted : s.eraseGhosts.faulted = s.faulted := rfl
  have hbusy : s.eraseGhosts.busy = s.busy := rfl
  rw [whenReady, whenReady, hconfig, hfaulted, hbusy]
  split
  · rfl
  · split
    · rfl
    · split
      · rfl
      · exact congrArg Host.Outcome.next h

theorem toggle_eraseGhosts (s : State) (r : MirrorReg) (op : ToggleOp) (mask : Byte) (w : ReqWord) :
    (s.toggle r op mask w).eraseGhosts = (s.eraseGhosts.toggle r op mask w).eraseGhosts := by
  have hmirror : s.eraseGhosts.mirror r = s.mirror r := by cases r <;> rfl
  rw [State.toggle, State.toggle, hmirror]
  cases s.mirror r <;> rfl

theorem accept_eraseGhosts (p : List MicroOp) (s : State) :
    mapNext State.eraseGhosts (accept p s) = mapNext State.eraseGhosts (accept p s.eraseGhosts) :=
  whenReady_eraseGhosts rfl

theorem acceptToggle_eraseGhosts (r : MirrorReg) (op : ToggleOp) (mask : Byte) (w : ReqWord) (s : State) :
    mapNext State.eraseGhosts (acceptToggle r op mask w s) =
      mapNext State.eraseGhosts (acceptToggle r op mask w s.eraseGhosts) :=
  whenReady_eraseGhosts (toggle_eraseGhosts s r op mask w)

theorem acceptReserved_eraseGhosts (w : ReqWord) (s : State) :
    mapNext State.eraseGhosts (acceptReserved w s) = mapNext State.eraseGhosts (acceptReserved w s.eraseGhosts) :=
  whenReady_eraseGhosts rfl

/-- What an instruction loads or records depends on no ghost. -/
theorem exec_eraseGhosts (i : Instr) (s : State) :
    mapNext State.eraseGhosts (exec i s) = mapNext State.eraseGhosts (exec i s.eraseGhosts) := by
  cases i
  case displayOff | displayOn | cursorOff | cursorOn | blinkOff | blinkOn | leftToRight | rightToLeft | autoscrollOn
    | autoscrollOff => exact acceptToggle_eraseGhosts _ _ _ _ s
  case reservedOp27 | reservedOp28To31 | reservedRsv => exact acceptReserved_eraseGhosts _ s
  all_goals exact accept_eraseGhosts _ s

/-- No micro-operation reads a ghost but to write one. -/
theorem perform_eraseGhosts (s : State) (d : Draw) (m : MicroOp) :
    (s.perform d m).eraseGhosts = (s.eraseGhosts.perform d m).eraseGhosts := by
  cases m with
  | setReg w =>
    cases w <;> simp only [State.perform, State.setReg, State.clearPulse, State.advance, State.eraseGhosts,
      State.erasePins]
  | xfer v =>
    cases d <;> simp only [State.perform, State.writeExpander, State.drivePins, State.busByte, State.emit,
      State.clearPulse, State.await, State.advance, State.eraseGhosts, State.erasePins]
  | _ =>
    cases d <;> simp only [State.perform, State.finish, State.emit, State.clearPulse, State.await, State.advance,
      State.eraseGhosts, State.erasePins]

theorem acceptNext_eraseGhosts (s : State) :
    mapNext State.eraseGhosts (acceptNext s) = mapNext State.eraseGhosts (acceptNext s.eraseGhosts) := by
  have hhost : s.eraseGhosts.host = s.host := rfl
  rw [acceptNext, acceptNext, hhost]
  cases s.host with
  | nil => rfl
  | cons r rest => exact exec_eraseGhosts _ { s.clearPulse with host := rest }

theorem performNext_eraseGhosts (d : Draw) (s : State) :
    mapNext State.eraseGhosts (performNext d s) = mapNext State.eraseGhosts (performNext d s.eraseGhosts) := by
  have hop : s.eraseGhosts.prog[s.eraseGhosts.upc.toNat]? = s.prog[s.upc.toNat]? := rfl
  rw [performNext, performNext, hop]
  cases s.prog[s.upc.toNat]? with
  | none => rfl
  | some m => exact congrArg Host.Outcome.next (perform_eraseGhosts s d m)

theorem engineStep_eraseGhosts (d : Draw) (s : State) :
    mapNext State.eraseGhosts (engineStep d s) = mapNext State.eraseGhosts (engineStep d s.eraseGhosts) := by
  have hconfig : configLegal s.eraseGhosts.cfg = configLegal s.cfg := rfl
  have hfaulted : s.eraseGhosts.faulted = s.faulted := rfl
  have hstuck : s.eraseGhosts.stuck = s.stuck := rfl
  have hbusy : s.eraseGhosts.busy = s.busy := rfl
  rw [engineStep, engineStep, hconfig, hfaulted, hstuck, hbusy]
  split
  · rfl
  · split
    · rfl
    · rcases s.stuck with - | - | -
      · cases s.busy with
        | true => exact performNext_eraseGhosts d s
        | false => exact acceptNext_eraseGhosts s
      · rfl
      · rfl

/-- A step with the ghosts erased before it ends, but for the ghosts, as the step itself. -/
theorem step_eraseGhosts (s : State) :
    mapNext State.eraseGhosts (step s) = mapNext State.eraseGhosts (step s.eraseGhosts) := by
  have henv : s.eraseGhosts.env = s.env := rfl
  rw [step, step, machineStep, machineStep, henv]
  rcases s.env with - | ⟨- | - | d, es⟩
  · exact engineStep_eraseGhosts .ack s
  · rfl
  · rfl
  · exact engineStep_eraseGhosts d { s with env := es }

/-- Settles O22: both steps end as the one from the state without its ghosts. -/
theorem ghostsNeverMatter : Obligations.GhostsNeverMatter := by
  intro s s' h
  rw [step_eraseGhosts s, step_eraseGhosts s', h]

end Sys2Proof.Machine
end

section
/-! PROOF. A running engine's step under each answer of the environment (20_memory.md R38, R41, R42, 60_exceptions.md R187,
R188): the byte a transfer puts on the bus and the nibble it latches, a collaborator that never completes, and a host whose
queue the step does not read (R58). -/

namespace Sys2Proof.Machine

/-- A step of a running engine performs the micro-operation at UPC with the answer the environment lists (R25). -/
theorem step_answered {s : State} {m : MicroOp} {d : Draw} {es : List EnvEvent} (hr : s.Running)
    (henv : s.env = .answer d :: es) (hm : s.prog[s.upc.toNat]? = some m) :
    step s = .next ({ s with env := es }.perform d m) :=
  (stepPerformsMicroOperation s m hr hm).2.1 d es henv

/-! ## A transfer -/

theorem pinE_eq_getLsbD (b : Byte) : pinE b = b.getLsbD 2 := by
  revert b; decide

theorem pinRs_eq_getLsbD (b : Byte) : pinRs b = b.getLsbD 0 := by
  revert b; decide

theorem busByte_eq (s : State) (v : Byte) : s.busByte v = if s.bl then v ||| 0x08 else v := by
  cases h : s.bl <;> simp [State.busByte, blBits, blMask, h]

/-- The latch condition in the bits of the two pin levels (R61). -/
theorem append_edge (s : State) (b : Byte) :
    s.latches ++ s.edge b =
      if s.pins.getLsbD 2 = true ∧ b.getLsbD 2 = false then
        s.latches ++ [⟨b.extractLsb' 4 4, b.getLsbD 0, s.sync, s.phase⟩]
      else s.latches := by
  rw [State.edge, pinE_eq_getLsbD, pinE_eq_getLsbD, pinRs_eq_getLsbD, pinData]
  cases s.pins.getLsbD 2 <;> cases b.getLsbD 2 <;> simp

/-- Settles O18: the byte with its backlight bit, and the edge of E, in bits. -/
theorem transferOrsBacklight : Obligations.TransferOrsBacklight := by
  intro s v b hr henv hm hb
  obtain rfl : s.busByte v = b := (busByte_eq s v).trans hb.symm
  rw [step_running hr henv hm, perform_xfer, State.moved, append_edge]

/-- Settles O20: the pins take the free value, and what that latches is appended. -/
theorem failedTransferCountsAsPerformed : Obligations.FailedTransferCountsAsPerformed := by
  intro s es v hr henv hm
  exact ⟨s.edge (Config.freePins s.freeCount), by rw [step_answered hr henv hm, perform_xfer_nak]; rfl⟩

/-! ## A collaborator that never completes -/

/-- The collaborator a micro-operation waits for (R98, R99). -/
def MicroOp.device : MicroOp → Option Device
  | .xfer _ => some .transport
  | .busInit => some .transport
  | .wait _ => some .timer
  | _ => none

/-- The fault of an engine that waits for a collaborator which never completes (R187). -/
def Device.stuckFault : Device → Fault
  | .transport => .transportStuck
  | .timer => .timerStuck

/-- Without a completion the engine is stuck on the collaborator, at the same UPC (R42). -/
theorem perform_hang_of_device {m : MicroOp} {dev : Device} (h : m.device = some dev) (s : State) :
    (s.perform .hang m).stuck = some dev ∧ (s.perform .hang m).upc = s.upc ∧ m.isDone = false := by
  cases m <;> cases h <;> exact ⟨rfl, rfl, rfl⟩

/-- An engine that is stuck has no step of its own (R187). -/
theorem engineStep_stuck {s : State} {dev : Device} (hc : configLegal s.cfg = true) (hf : s.faulted = false)
    (hst : s.stuck = some dev) (d : Draw) : engineStep d s = .fault dev.stuckFault := by
  cases dev <;> simp [engineStep, hc, hf, hst, Device.stuckFault]

/-- Settles O11: the event is emitted, the program stays where it is, and the engine's next step is the collaborator's
fault; `rst` is a step all the same. -/
theorem neverCompletedIsStuck : Obligations.NeverCompletedIsStuck := by
  intro s es m e f hr hm henv hcase
  obtain ⟨dev, hdev, rfl, hevent⟩ : ∃ dev, m.device = some dev ∧ f = dev.stuckFault ∧ s.emitted m = [e] := by
    rcases hcase with ⟨⟨v, rfl, rfl⟩, rfl⟩ | ⟨rfl, rfl, rfl⟩ | ⟨⟨t, rfl, rfl⟩, rfl⟩ <;> exact ⟨_, rfl, rfl, rfl⟩
  have hstep := step_answered hr henv hm
  obtain ⟨hlegal, hworking, hrunning, -⟩ := hr
  obtain ⟨hstuck, hupc, hdone⟩ := perform_hang_of_device hdev { s with env := es }
  obtain ⟨hprog, hbusy, -⟩ := perform_progress hdone { s with env := es } .hang
  obtain ⟨hcfg, -, -, -, hrest, hfaulted, -⟩ := perform_keeps { s with env := es } .hang m
  have htr := (perform_tr { s with env := es } .hang m).trans (congrArg (s.tr ++ ·) hevent)
  refine ⟨_, hstep, htr, hbusy.trans hrunning, hupc, hprog, hrest, ?_, ?_⟩
  · rintro rfl
    rw [step, machineStep, hrest]
    exact engineStep_stuck (by rw [hcfg]; exact hlegal) (hfaulted.trans hworking) hstuck .ack
  · rintro rest rfl
    exact ⟨_, engineResetLoadsResetState _ rest hrest, rfl⟩

/-! ## The host's queue -/

/-- `s` with the requests `q` presented by the host. -/
def State.withHost (s : State) (q : List Request) : State := { s with host := q }

theorem perform_withHost (s : State) (q : List Request) (d : Draw) (m : MicroOp) :
    (s.withHost q).perform d m = (s.perform d m).withHost q := by
  cases m with
  | setReg w => cases w <;> rfl
  | _ => cases d <;> rfl

theorem performNext_withHost (s : State) (q : List Request) (d : Draw) :
    performNext d (s.withHost q) = mapNext (·.withHost q) (performNext d s) := by
  have hop : (s.withHost q).prog[(s.withHost q).upc.toNat]? = s.prog[s.upc.toNat]? := rfl
  rw [performNext, performNext, hop]
  cases s.prog[s.upc.toNat]? with
  | none => rfl
  | some m => exact congrArg Host.Outcome.next (perform_withHost s q d m)

/-- A busy engine's step carries the host's queue along unread (R58). -/
theorem engineStep_withHost {s : State} (hb : s.busy = true) (q : List Request) (d : Draw) :
    engineStep d (s.withHost q) = mapNext (·.withHost q) (engineStep d s) := by
  have hconfig : (s.withHost q).cfg = s.cfg := rfl
  have hfaulted : (s.withHost q).faulted = s.faulted := rfl
  have hstuck : (s.withHost q).stuck = s.stuck := rfl
  have hbusy : (s.withHost q).busy = true := hb
  rw [engineStep, engineStep, hconfig, hfaulted, hstuck, hbusy, hb]
  split
  · rfl
  · split
    · rfl
    · rcases s.stuck with - | - | -
      · exact performNext_withHost s q d
      · rfl
      · rfl

theorem step_withHost {s : State} (hb : s.busy = true) (q : List Request) :
    step (s.withHost q) = mapNext (·.withHost q) (step s) := by
  have henv : (s.withHost q).env = s.env := rfl
  rw [step, step, machineStep, machineStep, henv]
  rcases s.env with - | ⟨- | - | d, es⟩
  · exact engineStep_withHost hb q .ack
  · rfl
  · rfl
  · exact engineStep_withHost (s := { s with env := es }) hb q d

/-- Settles O6: the step from another queue is the step itself with that queue put in. -/
theorem requestSampledOnce : Obligations.RequestSampledOnce := by
  intro s q hb
  have hstep : step { s with host := q } = mapNext (·.withHost q) (step s) := step_withHost hb q
  rw [hstep]
  cases step s <;> rfl

end Sys2Proof.Machine
end

section
/-! PROOF. The backlight bit of a request's bytes (20_memory.md R39, 43_mirror_toggles.md R160): only BACKLIGHT_ON and
BACKLIGHT_OFF write the register, and every other micro-program transfers values with the bit low. -/

namespace Sys2Proof.Machine

/-- The backlight bit of a byte is the register's, for a value that leaves it low (R38). -/
theorem backlight_of_low {v : Byte} (h : pinBl v = false) (bl : Bool) : (v ||| blBits bl).getLsbD 3 = bl := by
  revert v bl; decide

/-- Without a write of the backlight register, each byte of a micro-program is one of its values with the bit of `bl`. -/
theorem xfer_mem_busEvents {ops : List MicroOp} (h : ∀ m ∈ ops, m.setsBacklight = false) {addr a : BitVec 7} {bl : Bool}
    {c : Byte} (hc : .xfer a c ∈ busEvents addr bl ops) : ∃ v, .xfer v ∈ ops ∧ c = v ||| blBits bl := by
  induction ops with
  | nil => cases hc
  | cons m ops ih =>
    obtain ⟨hm, hops⟩ := List.forall_mem_cons.mp h
    have later (hc : .xfer a c ∈ busEvents addr bl ops) : ∃ v, .xfer v ∈ m :: ops ∧ c = v ||| blBits bl :=
      (ih hops hc).imp fun v hv => ⟨.tail m hv.1, hv.2⟩
    cases m with
    | xfer v =>
      rcases List.mem_cons.mp hc with he | hc
      · exact ⟨v, .head ops, (BusEvent.xfer.inj he).2⟩
      · exact later hc
    | wait t => exact later ((List.mem_cons.mp hc).resolve_left nofun)
    | busInit => exact later ((List.mem_cons.mp hc).resolve_left nofun)
    | setReg w =>
      cases w with
      | bl v => cases hm
      | _ => exact later hc
    | _ => exact later hc

/-- No accepted micro-program transfers a value with the backlight bit set (R38, R43). -/
theorem accepted_xfer_low {i : Instr} {s t : State} (hs : s.Ready) (h : exec i s = .next t) (hb : t.busy = true) {v : Byte}
    (hv : .xfer v ∈ t.prog) : pinBl v = false := by
  suffices hok : (MicroOp.xfer v).ok = true by
    simp only [MicroOp.ok, Bool.and_eq_true, Bool.not_eq_true'] at hok
    exact hok.2
  rcases accepted_prog hs h hb with ⟨a, b, -, hp⟩ | ⟨-, ops, hbody, hp⟩ <;> rw [hp] at hv
  · exact List.all_eq_true.mp (initOps_all_ok _ _ _) _ hv
  · have hv : .xfer v ∈ ops := (List.mem_append.mp hv).resolve_right (by simp)
    cases hbody with
    | bus hbus _ => exact hbus _ hv
    | setReg _ hbus _ => exact hbus _ ((List.mem_cons.mp hv).resolve_left nofun)

/-- A toggle writes its mirror register alone (R144). -/
theorem acceptToggle_keepsBacklight {r : MirrorReg} {op : ToggleOp} {mask : Byte} {w : ReqWord} {s t : State}
    (hs : s.Ready) (h : acceptToggle r op mask w s = .next t) (hb : t.busy = true) :
    t.prog.all (fun m => !m.setsBacklight) = true := by
  rw [acceptToggle, whenReady_ready hs] at h
  cases h
  rcases toggle_cases s r op mask w with ⟨-, ht⟩ | ⟨x, -, ht⟩ <;> rw [ht] at hb ⊢
  · exact absurd (hs.2.2.symm.trans hb) Bool.false_ne_true
  · cases r <;> rfl

/-- A request other than BACKLIGHT_ON and BACKLIGHT_OFF leaves the backlight register alone (R160). -/
theorem accepted_keepsBacklight {i : Instr} {s t : State} (hs : s.Ready) (h : exec i s = .next t) (hb : t.busy = true)
    (hon : ∀ a b, i ≠ .backlightOn a b) (hoff : ∀ a b, i ≠ .backlightOff a b) :
    t.prog.all (fun m => !m.setsBacklight) = true := by
  cases i
  case backlightOn a b => exact absurd rfl (hon a b)
  case backlightOff a b => exact absurd rfl (hoff a b)
  case displayOff | displayOn | cursorOff | cursorOn | blinkOff | blinkOn | leftToRight | rightToLeft | autoscrollOn
    | autoscrollOff => exact acceptToggle_keepsBacklight hs h hb
  case reservedOp27 | reservedOp28To31 | reservedRsv =>
    exact absurd ((acceptReserved_idle hs h).symm.trans hb) Bool.false_ne_true
  case init | clear => rw [accept_prog hs h]; cases s.oled <;> rfl
  all_goals rw [accept_prog hs h]; rfl

/-- Settles O46: the two backlight requests transfer 0x00 under the bit they write; any other request keeps BL. -/
theorem backlightOnEveryByte : Obligations.BacklightOnEveryByte := by
  intro i s t addr c hs h hb hc
  split
  case h_1 | h_2 =>
    rw [accept_prog hs h] at hc
    obtain ⟨-, rfl⟩ := BusEvent.xfer.inj (List.mem_singleton.mp hc)
    rfl
  case h_3 hon hoff =>
    have hkeeps := accepted_keepsBacklight hs h hb hon hoff
    obtain ⟨v, hv, rfl⟩ := xfer_mem_busEvents (by simpa using hkeeps) hc
    exact backlight_of_low (accepted_xfer_low hs h hb hv) s.bl

end Sys2Proof.Machine
end

section
/-! PROOF. The run of INIT (42_init.md R125): its micro-program performed section by section, to the state it ends in and the
nibbles it latches. -/

namespace Sys2Proof.Machine

/-! ## The sections of INIT -/

theorem pinE_blBits (bl : Bool) : pinE (blBits bl) = false := by
  cases bl <;> rfl

/-- SEND leaves E low (40_bus_strobe.md R113). -/
theorem pinE_sendLast (bl : Bool) (b : Byte) (rs : Bool) : pinE (sendLast bl b rs) = false :=
  (strobe_pins _ (nibbles_low b rs).2 bl).2.1

/-- A transfer latches nothing when E was low (20_memory.md R61). -/
theorem edge_of_low {s : State} (h : pinE s.pins = false) (b : Byte) : s.edge b = [] := by
  simp [State.edge, h]

/-- The two nibbles of a command byte sent in an aligned engine, PHASE being `p`. -/
def commandLatches (p : Phase) (b : Byte) : List Latch :=
  [⟨b.extractLsb' 4 4, false, true, p⟩, ⟨b.extractLsb' 0 4, false, true, p⟩]

/-- `s` with the four registers that INIT writes. -/
def State.controls (s : State) (p : Phase) (f : Bool) (c e : Mirror) : State :=
  { s with phase := p, sync := f, ctl := c, ems := e }

section

variable (s : State) (p : Phase) (f : Bool) (c e : Mirror) (es : List BusEvent) (a : Byte) (ls : List Latch) (k : BitVec 7)

theorem controls_enter (p' : Phase) : ((s.controls p f c e).moved es a a ls k).perform .ack (.enter p') =
    (s.controls p' f c e).moved es a a ls (k + 1) := by
  simp [State.perform, State.controls, State.moved, State.clearPulse, State.advance, BitVec.add_assoc]

theorem controls_sync (f' : Bool) : ((s.controls p f c e).moved es a a ls k).perform .ack (.sync f') =
    (s.controls p f' c e).moved es a a ls (k + 1) := by
  simp [State.perform, State.controls, State.moved, State.clearPulse, State.advance, BitVec.add_assoc]

theorem controls_setCtl (v : Byte) : ((s.controls p f c e).moved es a a ls k).perform .ack (.setReg (.ctl v)) =
    (s.controls p f (.value v) e).moved es a a ls (k + 1) := by
  simp [State.perform, State.setReg, State.controls, State.moved, State.clearPulse, State.advance, BitVec.add_assoc]

theorem controls_setEms (v : Byte) : ((s.controls p f c e).moved es a a ls k).perform .ack (.setReg (.ems v)) =
    (s.controls p f c (.value v)).moved es a a ls (k + 1) := by
  simp [State.perform, State.setReg, State.controls, State.moved, State.clearPulse, State.advance, BitVec.add_assoc]

theorem controls_wait (t : Micros) : ((s.controls p f c e).moved es a a ls k).perform .ack (.wait t) =
    (s.controls p f c e).moved (es ++ [.wait t]) a a ls (k + 1) := by
  rw [perform_wait]
  exact (moved_moved ..).trans (by rw [List.append_nil]; rfl)

variable {a}

theorem controls_strobe {n : Byte} (hn : n &&& 0x0E = 0) (ha : pinE a = false) :
    ((s.controls p f c e).moved es a a ls k).performAll (strobe n) =
      (s.controls p f c e).moved (es ++ strobeEvents s.cfg.addr7 s.bl n) (n ||| blBits s.bl) (n ||| blBits s.bl)
        (ls ++ [⟨pinData n, pinRs n, f, p⟩]) (k + 5) := by
  rw [performAll_strobe _ n hn, moved_moved, edge_of_low ha]
  rfl

theorem controls_send (ha : pinE a = false) (b : Byte) :
    ((s.controls p true c e).moved es a a ls k).performAll (send b .cmd) =
      (s.controls p true c e).moved (es ++ sendEvents s.cfg.addr7 s.bl b false) (sendLast s.bl b false)
        (sendLast s.bl b false) (ls ++ commandLatches p b) (k + 10) := by
  rw [performAll_send, moved_moved, edge_of_low ha]
  rfl

end

/-! ## The micro-program -/

/-- INIT's micro-program without its DONE. -/
def initBody (fn : Byte) (oled : Bool) (reposition : Byte) : List MicroOp :=
  handshakeOps ++
  (MicroOp.enter .functionSet :: send (cmdFunctionSet ||| fn) .cmd) ++
  (MicroOp.enter .displayOn :: MicroOp.setReg (.ctl flagDisplay) :: send (cmdDisplayControl ||| flagDisplay) .cmd) ++
  (MicroOp.enter .cleared :: clearOps oled reposition) ++
  (MicroOp.enter .entryModeSet :: MicroOp.setReg (.ems flagEntryLeft) :: send (cmdEntryModeSet ||| flagEntryLeft) .cmd) ++
  (MicroOp.enter .homed :: homeOps) ++ [MicroOp.enter .ready]

theorem initOps_eq (fn : Byte) (oled : Bool) (c : Byte) : initOps fn oled c = initBody fn oled c ++ [.done 0] := by
  simp [initOps, setupOps, initBody]

theorem initBody_length (fn : Byte) (oled : Bool) (c : Byte) : (initBody fn oled c).length + 1 = initLength oled := by
  cases oled <;> rfl

theorem initBody_noDone (fn : Byte) (oled : Bool) (c : Byte) : ∀ m ∈ initBody fn oled c, m.isDone = false := by
  have hall : (initBody fn oled c).all (fun m => !m.isDone) = true := by cases oled <;> rfl
  simpa using hall

/-- The cursor command of column 0, row 0 is 0x80 in every configuration (R138). -/
theorem cursorCommand_origin (c : Config) : cursorCommand c (rowOffsets c) 0 0 = 0x80 := by
  have hrow : clampRow c 0 = 0 := if_neg BitVec.not_lt_zero
  have hentry : (rowOffsets c).entry 0 = 0 := rfl
  rw [cursorCommand, hrow, hentry]
  rfl

/-! ## What it latches and where it ends -/

/-- The nibbles of the handshake (R130 to R134). -/
def handshakeLatches : List Latch :=
  [⟨3, false, false, .modeRequested1⟩, ⟨3, false, false, .modeRequested2⟩, ⟨3, false, false, .modeRequested3⟩,
    ⟨2, false, false, .fourBitLocked⟩]

/-- The nibbles of INIT's command bytes (R135 to R141). -/
def setupLatches (fn : Byte) (oled : Bool) : List Latch :=
  commandLatches .functionSet (0x20 ||| fn) ++ commandLatches .displayOn 0x0C ++ commandLatches .cleared 0x01 ++
  (if oled then commandLatches .cleared 0x80 else []) ++ commandLatches .entryModeSet 0x06 ++ commandLatches .homed 0x02

/-- What the expander reset byte latches when E was high before (R61). -/
def resetLatches (p : Byte) : List Latch := if p.getLsbD 2 then [⟨0, false, false, .expanderReset⟩] else []

/-- All that INIT latches when it is accepted in `s`. -/
def initLatches (s : State) : List Latch := resetLatches s.pins ++ handshakeLatches ++ setupLatches s.fn s.oled

/-- The reset byte drops E, its data lines are 0, and SYNC is 0 (R129). -/
theorem edge_expanderReset {s : State} (hf : s.sync = false) (hp : s.phase = .expanderReset) :
    s.edge (blBits s.bl) = resetLatches s.pins := by
  have hbyte : ∀ bl, pinData (blBits bl) = 0 ∧ pinRs (blBits bl) = false := by decide
  obtain ⟨hdata, hrs⟩ := hbyte s.bl
  rw [State.edge, resetLatches, pinE_blBits, pinE_eq_getLsbD, hdata, hrs, hf, hp, Bool.not_false, Bool.and_true]

/-- INIT up to its first transfer (R127, R128). -/
def busInitOps : List MicroOp :=
  [.enter .poweredUnknown, .sync false, .busInit, .wait tPower, .enter .expanderReset]

theorem performAll_busInit (s : State) : s.performAll busInitOps =
    (s.controls .expanderReset false s.ctl s.ems).moved [.busInit, .wait 50000] s.last s.pins [] 5 := by
  simp [busInitOps, State.perform, State.controls, State.moved, State.emit, State.clearPulse, State.advance, tPower,
    BitVec.add_assoc]

/-- From the first transfer on, the expander reset byte, the pins and LAST agree (R129). -/
theorem performAll_expanderReset (s : State) : (s.performAll busInitOps).perform .ack (.xfer 0x00) =
    (s.controls .expanderReset false s.ctl s.ems).moved [.busInit, .wait 50000, .xfer s.cfg.addr7 (blBits s.bl)]
      (blBits s.bl) (blBits s.bl) (resetLatches s.pins) 6 := by
  have hbyte (t : State) : t.busByte 0x00 = blBits t.bl := BitVec.zero_or
  rw [performAll_busInit, perform_xfer, moved_moved, hbyte, edge_expanderReset] <;> rfl

theorem handshakeOps_eq : handshakeOps =
    busInitOps ++ (MicroOp.xfer 0x00 :: MicroOp.wait tExpRst :: MicroOp.enter .modeRequested1 :: strobe 0x30) ++
      (MicroOp.wait tMode1 :: MicroOp.enter .modeRequested2 :: strobe 0x30) ++
      (MicroOp.wait tMode2 :: MicroOp.enter .modeRequested3 :: strobe 0x30) ++
      (MicroOp.enter .fourBitLocked :: strobe 0x20) ++ [MicroOp.sync true] := rfl

/-- What the handshake emits (R127 to R134). -/
def handshakeEvents (addr : BitVec 7) (bl : Bool) : List BusEvent :=
  [BusEvent.busInit, BusEvent.wait 50000, BusEvent.xfer addr (blBits bl), BusEvent.wait 500000] ++
    strobeEvents addr bl 0x30 ++ [BusEvent.wait 4200] ++ strobeEvents addr bl 0x30 ++ [BusEvent.wait 110] ++
    strobeEvents addr bl 0x30 ++ strobeEvents addr bl 0x20

/-- The handshake, from any pins: SYNC is set and PHASE is FourBitLocked after it (R127 to R134). -/
theorem performAll_handshake (s : State) : s.performAll handshakeOps =
    (s.controls .fourBitLocked true s.ctl s.ems).moved (handshakeEvents s.cfg.addr7 s.bl) (0x20 ||| blBits s.bl)
      (0x20 ||| blBits s.bl) (resetLatches s.pins ++ handshakeLatches) 34 := by
  have hmode : (0x30 : Byte) &&& 0x0E = 0 := rfl
  have hlock : (0x20 : Byte) &&& 0x0E = 0 := rfl
  have hlow : pinE (0x30 ||| blBits s.bl) = false := (strobe_pins 0x30 hmode s.bl).2.1
  simp only [handshakeOps_eq, performAll_append, performAll_cons, performAll_nil, performAll_expanderReset,
    controls_enter, controls_sync, controls_wait, controls_strobe, hmode, hlock, hlow, pinE_blBits]
  simp only [List.append_assoc]
  rfl

/-- The whole of INIT, its command bytes after the handshake (R125): where it ends, and what it latches. -/
theorem performAll_initBody (s : State) :
    (s.performAll (initBody s.fn s.oled 0x80)).finish 0 = s.initialised (initLatches s) := by
  have hlow : pinE (0x20 ||| blBits s.bl) = false := (strobe_pins 0x20 rfl s.bl).2.1
  cases ho : s.oled <;>
    simp only [initBody, homeOps, clearOps, performAll_append, performAll_cons, performAll_nil, performAll_handshake,
      controls_enter, controls_setCtl, controls_setEms, controls_wait, controls_send, hlow, pinE_sendLast, if_true,
      Bool.false_eq_true, if_false, List.append_nil]
  all_goals
    simp only [State.initialised, initEvents, initLatches, setupLatches, ho, if_true, Bool.false_eq_true, if_false,
      List.append_nil, List.append_assoc]
    rfl

/-- INIT accepted runs to its DONE, whatever PHASE, SYNC and the mirror were (R125, R139). -/
theorem runsTo_init {s : State} (hr : s.Ready) (hu : s.Undisturbed) (hrow : s.rowoff = rowOffsets s.cfg) (a b : Byte) :
    RunsTo (.init a b) s (initLength s.oled) (s.initialised (initLatches s)) := by
  have hexec : exec (.init a b) s = accept (initBody s.fn s.oled 0x80 ++ [.done 0]) s := by
    rw [← initOps_eq, ← cursorCommand_origin s.cfg, ← hrow]
    rfl
  have hlen := initBody_length s.fn s.oled 0x80
  have hle : initLength s.oled ≤ 127 := by cases s.oled <;> decide
  have hrun := runsTo_accept hr hu hexec (by omega) (initBody_noDone s.fn s.oled 0x80)
  rw [hlen] at hrun
  exact (performAll_initBody (s.load (initBody s.fn s.oled 0x80 ++ [.done 0]))) ▸ hrun

end Sys2Proof.Machine
end

section
/-! PROOF. What the nibbles of INIT spell (20_memory.md R63, R64; 42_init.md R130, R134): the handshake's nibbles one by one,
then the command bytes. -/

namespace Sys2Proof.Machine

/-- The reset byte's nibble, latched with SYNC = 0 outside the handshake's states, spells nothing (R64). -/
theorem resetLatches_spell_nothing (p : Byte) (ls : List Latch) :
    decodedStream (resetLatches p ++ ls) = decodedStream ls := by
  rw [resetLatches]
  split <;> rfl

theorem handshakeBytes_initLatches (fn : Byte) (oled : Bool) :
    handshakeBytes (handshakeLatches ++ setupLatches fn oled) =
      [(false, 0x30), (false, 0x30), (false, 0x30), (false, 0x20)] := by
  cases oled <;> rfl

/-- A byte's nibbles, put together again (R64). -/
theorem nibbles_append (b : Byte) : b.extractLsb' 4 4 ++ b.extractLsb' 0 4 = b := by
  revert b; decide

theorem decodedBytes_initLatches (fn : Byte) (oled : Bool) :
    decodedBytes (handshakeLatches ++ setupLatches fn oled) =
      [(false, 0x20 ||| fn), (false, 0x0C), (false, 0x01)] ++ (if oled then [(false, 0x80)] else []) ++
        [(false, 0x06), (false, 0x02)] := by
  rw [← nibbles_append (0x20 ||| fn)]
  cases oled <;> rfl

theorem decodedStream_initLatches (fn : Byte) (oled : Bool) :
    decodedStream (handshakeLatches ++ setupLatches fn oled) =
      handshakeBytes (handshakeLatches ++ setupLatches fn oled) ++
        decodedBytes (handshakeLatches ++ setupLatches fn oled) := by
  cases oled <;> rfl

/-- Settles O39: INIT's one run latches the handshake and the command bytes, and the stream goes on with them. -/
theorem initDecodesToSequence : Obligations.InitDecodesToSequence := by
  intro s u a b hr hu hrow hfn hrun
  obtain rfl : u = s.initialised (initLatches s) := runsTo_unique hrun (runsTo_init hr hu hrow a b)
  refine ⟨handshakeLatches ++ setupLatches s.fn s.oled, ?_, handshakeBytes_initLatches _ _, ?_,
    decodedStream_initLatches _ _, fun hpairs => ?_⟩
  · show s.latches ++ initLatches s = _
    simp only [initLatches, resetLatches, List.append_assoc]
  · rw [← hfn]
    exact decodedBytes_initLatches _ _
  · show decodedStream (s.latches ++ initLatches s) = _
    rw [decodedStream_append hpairs, initLatches, List.append_assoc, resetLatches_spell_nothing,
      decodedStream_initLatches, List.append_assoc]

end Sys2Proof.Machine
end

section
/-! PROOF. The round trip of the encodings (30_encoding.md R71 to R89): what a request word and a command byte decode to,
and that decoding them drops no bit. -/

namespace Sys2Proof

theorem wellFormed_reservedRsv {op : BitVec 5} {rsv : BitVec 3} {a b : Byte} :
    (Instr.reservedRsv op rsv a b).WellFormed ↔ rsv ≠ 0 ∧ op.toNat ≤ 26 := by
  simp [Instr.WellFormed, Instr.wellFormed]

/-! ## Decoding what was encoded -/

/-- A word with RSV = 0 is the request, or the reserved row, of its OP (R73). -/
theorem decodeReq_of_rsv_zero (op : BitVec 5) (a b : Byte) (g : Glyph) :
    decodeReq (reqWord op 0 a b) g = decodeOp op 0 a b g := by
  simp [decodeReq]

/-- A word with an unassigned OP belongs to the OP's reserved row, whatever its RSV (log entry 16). -/
theorem decodeReq_of_op_unassigned {op : BitVec 5} (hop : 27 ≤ op.toNat) (rsv : BitVec 3) (a b : Byte) (g : Glyph) :
    decodeReq (reqWord op rsv a b) g = decodeOp op rsv a b g := by
  have hnot : ¬op.toNat ≤ 26 := by omega
  simp [decodeReq, hnot]

/-- A word with RSV ≠ 0 and an assigned OP belongs to the row RESERVED_RSV (R75). -/
theorem decodeReq_of_rsv_ne_zero {op : BitVec 5} {rsv : BitVec 3} (hrsv : rsv ≠ 0) (hop : op.toNat ≤ 26) (a b : Byte)
    (g : Glyph) : decodeReq (reqWord op rsv a b) g = .reservedRsv op rsv a b := by
  simp [decodeReq, hop, show ¬rsv = 0#3 from hrsv]

theorem decodeOp_28_31 (low : BitVec 2) (rsv : BitVec 3) (a b : Byte) (g : Glyph) :
    decodeOp (0b111#3 ++ low) rsv a b g = .reservedOp28To31 low rsv a b := by
  have hop : ∀ low : BitVec 2, 28 ≤ (0b111#3 ++ low).toNat ∧ (0b111#3 ++ low).setWidth 2 = low := by decide
  obtain ⟨hle, hlow⟩ := hop low
  unfold decodeOp
  split
  case h_29 => rw [hlow]
  all_goals omega

/-- The highest set bit of a form's byte is the one that names the form (R76). -/
theorem decodeCommandByte_of_encode {i : Instr} {c : Byte} (h : encode i = .byte false c) :
    decodeCommandByte c = .ok i := by
  cases i <;> cases h
  case clearDisplay => rfl
  case returnHome x => revert x; decide
  case entryModeSet id s => revert id s; decide
  case displayControl d c b => revert d c b; decide
  case cursorShift sc rl x => revert sc rl x; decide
  case functionSet dl n f x => revert dl n f x; decide
  case setCgramAddr addr => revert addr; decide
  case setDdramAddr addr => revert addr; decide

/-- Settles O55: each format, and a request word by its OP and RSV. -/
theorem decodeOfEncode : Obligations.DecodeOfEncode := by
  intro i hi
  cases i
  case reservedOp27 rsv a b => exact congrArg Except.ok (decodeReq_of_op_unassigned (by decide) rsv a b 0)
  case reservedOp28To31 low rsv a b =>
    have hop : ∀ low : BitVec 2, 27 ≤ (0b111#3 ++ low).toNat := by decide
    exact congrArg Except.ok ((decodeReq_of_op_unassigned (hop low) rsv a b 0).trans (decodeOp_28_31 low rsv a b 0))
  case reservedRsv op rsv a b =>
    obtain ⟨hrsv, hop⟩ := wellFormed_reservedRsv.mp hi
    exact congrArg Except.ok (decodeReq_of_rsv_ne_zero hrsv hop a b 0)
  case clearDisplay | returnHome | entryModeSet | displayControl | cursorShift | functionSet | setCgramAddr
    | setDdramAddr => exact decodeCommandByte_of_encode rfl
  case data | initNibble8Bit | initNibble4Bit => rfl
  all_goals exact congrArg Except.ok (decodeReq_of_rsv_zero _ _ _ _)

/-- Bits that encode an instruction of the opcode table are read as it. -/
theorem decodeTableWord_of_encode {i : Instr} {nbits w : Nat} (hi : i.WellFormed) (h : tableWord nbits w = encode i) :
    decodeTableWord nbits w = some i := by
  rw [decodeTableWord, h, decodeOfEncode i hi]

/-- Settles O59: each word is the encoding of its instruction. -/
theorem specWordsDecode : Obligations.SpecWordsDecode := by
  refine ⟨?_, ?_, ?_, ?_, ?_, ?_, ?_, ?_, ?_, ?_⟩ <;> exact decodeTableWord_of_encode rfl rfl

/-! ## Encoding what was decoded -/

/-- Only the row RESERVED_RSV has a check, and no OP decodes to it. -/
theorem decodeOp_wellFormed (op : BitVec 5) (rsv : BitVec 3) (a b : Byte) (g : Glyph) :
    (decodeOp op rsv a b g).WellFormed := by
  unfold decodeOp
  split <;> rfl

theorem op_eq_of_toNat {op : BitVec 5} {n : Nat} (h : op.toNat = n) : op = BitVec.ofNat 5 n := by
  rw [← h, BitVec.ofNat_toNat, BitVec.setWidth_eq]

/-- Where RSV is 0 or the OP unassigned, the row of the OP keeps every bit of the word (R73, R75). -/
theorem encode_decodeOp {op : BitVec 5} {rsv : BitVec 3} (h : op.toNat ≤ 26 → rsv = 0) (a b : Byte) (g : Glyph) :
    encode (decodeOp op rsv a b g) = .req (reqWord op rsv a b) (if op = 20 ∧ rsv = 0 then g else 0) := by
  unfold decodeOp
  split
  case h_28 hop =>
    obtain rfl := op_eq_of_toNat hop
    rfl
  case h_29 =>
    have hhigh : ∀ op : BitVec 5, 28 ≤ op.toNat → 0b111#3 ++ op.setWidth 2 = op ∧ op ≠ 20 := by decide
    obtain ⟨hop, hne⟩ := hhigh op (by grind)
    simp only [encode, hop, hne, false_and, if_false]
  all_goals
    rename_i hop
    obtain rfl := op_eq_of_toNat hop
    obtain rfl := h (by decide)
    rfl

/-- Settles O56: a word of the row RESERVED_RSV keeps its four fields, and any other word is its OP's. -/
theorem encodeOfDecodedRequest : Obligations.EncodeOfDecodedRequest := by
  intro w g
  unfold decodeReq
  split
  case isTrue h =>
    refine ⟨wellFormed_reservedRsv.mpr h, ?_⟩
    rw [encode, reqWord_fields, if_neg fun hglyph => h.1 hglyph.2]
  case isFalse h =>
    have hrsv : (opField w).toNat ≤ 26 → rsvField w = 0 := fun hop => not_not.mp fun hne => h ⟨hne, hop⟩
    refine ⟨decodeOp_wellFormed _ _ _ _ _, ?_⟩
    rw [encode_decodeOp hrsv, reqWord_fields]

/-- The form named by the highest set bit keeps the bits below it (R76). -/
theorem encode_decodeCommandByte {c : Byte} (hc : c ≠ 0) :
    ∃ i, decodeCommandByte c = .ok i ∧ encode i = .byte false c := by
  unfold decodeCommandByte
  split_ifs
  case neg => exact absurd hc (by revert c; decide)
  all_goals
    refine ⟨_, rfl, congrArg (Fetched.byte false) ?_⟩
    revert c
    decide

/-- Settles O58: 0x00 has no set bit to name a form. -/
theorem commandBytesDecode : Obligations.CommandBytesDecode := by
  intro c
  refine ⟨?_, encode_decodeCommandByte⟩
  rintro rfl
  rfl

end Sys2Proof
end

section
/-! PROOF. The reserved request words (30_encoding.md R75, R89): which words they are, and their refusal (60_exceptions.md
R183, R184). -/

namespace Sys2Proof.Machine

/-- The OP alone names a reserved row from 27 on (R89). -/
theorem isReserved_decodeOp (op : BitVec 5) (rsv : BitVec 3) (a b : Byte) (g : Glyph) :
    isReserved (decodeOp op rsv a b g) = true ↔ 27 ≤ op.toNat := by
  unfold decodeOp
  split
  case h_28 hop => exact iff_of_true rfl hop.ge
  case h_29 => exact iff_of_true rfl (by grind)
  all_goals exact iff_of_false Bool.false_ne_true (by omega)

theorem isReserved_decodeReq (w : ReqWord) (g : Glyph) :
    isReserved (decodeReq w g) = true ↔ rsvField w ≠ 0 ∨ 27 ≤ (opField w).toNat := by
  unfold decodeReq
  split
  case isTrue h => exact iff_of_true rfl (.inl h.1)
  case isFalse h =>
    rw [isReserved_decodeOp]
    exact ⟨.inr, fun hres => hres.elim (fun hne => Nat.lt_of_not_le fun hop => h ⟨hne, hop⟩) id⟩

/-- Settles O57: RSV and OP as numbers are bits 18:16 and 23:19 of the word. -/
theorem reservedWordsDecode : Obligations.ReservedWordsDecode := by
  intro w g
  have hop : (opField w).toNat = w.toNat / 2 ^ 19 := by
    have := w.isLt
    rw [opField, BitVec.extractLsb'_toNat, Nat.shiftRight_eq_div_pow]
    omega
  have hrsv : (rsvField w).toNat = w.toNat / 2 ^ 16 % 8 := by
    rw [rsvField, BitVec.extractLsb'_toNat, Nat.shiftRight_eq_div_pow]
  rw [isReserved_decodeReq, ne_eq, BitVec.toNat_eq, hrsv, hop]
  rfl

theorem acceptReserved_ready {s : State} (hs : s.Ready) (w : ReqWord) :
    acceptReserved w s = .next (s.refuse .reservedEncoding (some w)) :=
  whenReady_ready hs _

/-- Settles O10: each of the three reserved rows is refused with its encoding. -/
theorem reservedWordsRefused : Obligations.ReservedWordsRefused := by
  intro i s hi hs
  cases i
  case reservedOp27 | reservedOp28To31 | reservedRsv => exact ⟨_, rfl, acceptReserved_ready hs _⟩
  all_goals cases hi

end Sys2Proof.Machine
end

section
/-! PROOF. The controller forms run as instructions of their own (30_encoding.md R76, R85, R86): a byte form as the raw
passthrough of its byte, a handshake nibble as one STROBE. -/

namespace Sys2Proof.Machine

/-- A byte form loads the micro-program of COMMAND or WRITE of its byte (R119, R120; log entry 10). -/
theorem exec_of_encode_byte {i : Instr} {rs : Bool} {c : Byte} (h : encode i = .byte rs c) (s : State) :
    exec i s = exec (if rs then .write c 0 else .command c 0) s := by
  cases i <;> cases h <;> rfl

/-- Settles O41: the run of the passthrough is one SEND. -/
theorem byteFormsSendTheirByte : Obligations.ByteFormsSendTheirByte := by
  intro s i c rs hr hu h
  have hexec := exec_of_encode_byte h s
  refine ⟨hexec, ?_⟩
  cases rs with
  | false => exact ⟨_, runsTo_send (m := .cmd) (r := 0) hr hu hexec⟩
  | true => exact ⟨_, runsTo_send (m := .data) (r := 1) hr hu hexec⟩

/-- An instruction whose micro-program is one STROBE and a DONE, run to its end. -/
theorem runsTo_strobe {i : Instr} {s : State} {n r : Byte} (hr : s.Ready) (hu : s.Undisturbed) (hn : n &&& 0x0E = 0)
    (hexec : exec i s = accept (strobe n ++ [.done r]) s) :
    RunsTo i s 6 (s.answered (strobeEvents s.cfg.addr7 s.bl n) (n ||| blBits s.bl)
      (s.edge (n ||| blBits s.bl) ++ [⟨pinData n, pinRs n, s.sync, s.phase⟩]) r) := by
  have h := runsTo_accept hr hu hexec (by simp) (strobe_noDone n)
  rw [performAll_strobe _ n hn, load_moved_finish] at h
  exact h

/-- Settles O42: both nibbles are bytes that a STROBE may carry (40_bus_strobe.md R109). -/
theorem handshakeNibblesStrobeOnce : Obligations.HandshakeNibblesStrobeOnce := by
  intro s hr hu
  exact ⟨⟨_, runsTo_strobe hr hu rfl rfl⟩, ⟨_, runsTo_strobe hr hu rfl rfl⟩⟩

end Sys2Proof.Machine
end

section
/-! PROOF. Acceptance (40_bus_strobe.md R101, R104; 60_exceptions.md R193) and the step of an engine that is neither faulted
nor stuck (10_state.md R25, 40_bus_strobe.md R114, 60_exceptions.md R180): what an idle engine's step is, and that there
always is a step. -/

namespace Sys2Proof.Machine

/-! ## Acceptance -/

/-- In a state that accepts, every instruction's acceptance answers a next state. -/
theorem exec_ready {s : State} (hs : s.Ready) (i : Instr) : ∃ t, exec i s = .next t := by
  obtain ⟨k, hk, -⟩ := exec_cases i s
  exact ⟨k s, hk.trans (whenReady_ready hs k)⟩

/-- Settles O3: the three things acceptance can do are a load, the fault and the refusal. -/
theorem acceptanceFrame : Obligations.AcceptanceFrame := by
  intro i s hs
  obtain ⟨t, ht⟩ := exec_ready hs i
  rcases exec_next_cases ht hs with ⟨p, rfl⟩ | ⟨w, rfl⟩ | ⟨w, rfl⟩
  · exact .inl ⟨p, ht⟩
  · exact .inr (.inl ⟨w, ht⟩)
  · exact .inr (.inr ⟨w, ht⟩)

/-- A toggle accepted with its mirror UNSET sets FAULTED (R104). -/
theorem faulted_of_unset {i : Instr} {r : MirrorReg} {s t : State} (hs : s.Ready) (h : exec i s = .next t)
    (hi : toggleRegister i = some r) (hr : s.mirror r = .unset) : t.faulted = true := by
  obtain ⟨op, mask, w, -, hexec⟩ := exec_toggle hi
  rw [hexec, acceptToggle, whenReady_ready hs, toggle_unset hr] at h
  cases h
  rfl

/-- Only a toggle of an UNSET mirror sets FAULTED: a load and a refusal keep the bit, and the fault builds no micro-program
and emits nothing (R104). -/
theorem unset_of_faulted {i : Instr} {s t : State} (hs : s.Ready) (h : exec i s = .next t) (hf : t.faulted = true) :
    (∃ r, toggleRegister i = some r ∧ s.mirror r = .unset) ∧ t.busy = false ∧ t.prog = s.prog ∧ t.tr = s.tr := by
  obtain ⟨k, hk, hcases⟩ := exec_cases i s
  obtain rfl : k s = t := Host.Outcome.next.inj ((whenReady_ready hs k).symm.trans (hk.symm.trans h))
  rcases hcases with ⟨p, hp⟩ | ⟨w, hw, htoggle⟩ | ⟨w, hw, -⟩
  · rw [hp] at hf
    exact absurd (hs.2.1.symm.trans hf) Bool.false_ne_true
  · rw [hw]
    exact ⟨htoggle, hs.2.2, rfl, rfl⟩
  · rw [hw] at hf
    exact absurd (hs.2.1.symm.trans hf) Bool.false_ne_true

/-- Settles O4: the two directions, and what the fault leaves as it is. -/
theorem onlyTogglesOfUnsetMirrorFault : Obligations.OnlyTogglesOfUnsetMirrorFault := by
  intro i s t hs h
  refine ⟨⟨fun hf => (unset_of_faulted hs h hf).1, ?_⟩, fun hf => (unset_of_faulted hs h hf).2⟩
  rintro ⟨r, hi, hr⟩
  exact faulted_of_unset hs h hi hr

/-! ## The step of an idle engine -/

/-- An idle engine's step is the host's turn, whatever the environment answers (R70, R200). -/
theorem engineStep_ready {s : State} (hs : s.Ready) (hst : s.stuck = none) (d : Draw) :
    engineStep d s = acceptNext s := by
  obtain ⟨hc, hf, hb⟩ := hs
  simp [engineStep, hc, hf, hb, hst]

/-- The request presented is taken, decoded and accepted (R70, R101). -/
theorem engineStep_of_request {s : State} {r : Request} {rest : List Request} (hs : s.Ready) (hst : s.stuck = none)
    (hhost : s.host = r :: rest) (d : Draw) :
    engineStep d s = exec (decodeReq r.word r.glyph) { s with host := rest, rspDone := false } := by
  rw [engineStep_ready hs hst, acceptNext, hhost]
  rfl

/-- With no request presented only the pulse ends (R200). -/
theorem engineStep_of_no_request {s : State} (hs : s.Ready) (hst : s.stuck = none) (hhost : s.host = []) (d : Draw) :
    engineStep d s = .next s.clearPulse := by
  rw [engineStep_ready hs hst, acceptNext, hhost]

/-- With nothing listed the environment acknowledges (log entry 4). -/
theorem step_of_env_nil {s : State} (h : s.env = []) : step s = engineStep .ack s := by
  rw [step, machineStep, h]

theorem step_of_env_answer {s : State} {d : Draw} {es : List EnvEvent} (h : s.env = .answer d :: es) :
    step s = engineStep d { s with env := es } := by
  rw [step, machineStep, h]

/-- Settles O1: the host's turn, with the environment's list as the step leaves it. -/
theorem stepRunsDecodedRequest : Obligations.StepRunsDecodedRequest := by
  refine ⟨fun s r rest i hs hst hhost hdecode => ?_, fun s hs hst hhost => ?_⟩
  · obtain rfl : decodeReq r.word r.glyph = i := Except.ok.inj hdecode
    have hstep (es : List EnvEvent) := engineStep_of_request (s := { s with env := es }) hs hst hhost
    exact ⟨fun henv => (step_of_env_nil henv).trans (hstep s.env .ack),
      fun d es henv => (step_of_env_answer henv).trans (hstep es d)⟩
  · have hstep (es : List EnvEvent) := engineStep_of_no_request (s := { s with env := es }) hs hst hhost
    exact ⟨fun henv => (step_of_env_nil henv).trans (hstep s.env .ack),
      fun d es henv => (step_of_env_answer henv).trans (hstep es d)⟩

/-! ## There always is a step -/

/-- An idle engine accepts what is presented, or waits (R180). -/
theorem engineStep_next_of_ready {s : State} (hs : s.Ready) (hst : s.stuck = none) (d : Draw) :
    ∃ t, engineStep d s = .next t := by
  cases hhost : s.host with
  | nil => exact ⟨_, engineStep_of_no_request hs hst hhost d⟩
  | cons r rest =>
    rw [engineStep_of_request hs hst hhost d]
    exact exec_ready (s := { s with host := rest, rspDone := false }) hs _

/-- A running engine has a micro-operation at UPC, and an idle one a turn of the host (R25, R114). -/
theorem State.Inv.engineStep_next {s : State} (h : s.Inv) (hc : configLegal s.cfg = true) (hf : s.faulted = false)
    (hst : s.stuck = none) (d : Draw) : ∃ t, Machine.engineStep d s = .next t := by
  cases hb : s.busy with
  | true =>
    obtain ⟨-, hupc⟩ := h.running hb
    exact ⟨_, engineStep_running ⟨hc, hf, hb, hst⟩ (List.getElem?_eq_getElem hupc) d⟩
  | false => exact engineStep_next_of_ready ⟨hc, hf, hb⟩ hst d

/-- Settles O7: each of the four heads of the environment's list gives a step. -/
theorem workingEngineAlwaysSteps : Obligations.WorkingEngineAlwaysSteps := by
  intro s hi hc hf hst
  rcases henv : s.env with - | ⟨- | - | d, es⟩
  · rw [step_of_env_nil henv]
    exact hi.engineStep_next hc hf hst .ack
  · exact ⟨_, engineResetLoadsResetState s es henv⟩
  · exact ⟨{ s with env := es }.ctrlReset, by rw [step, machineStep, henv]⟩
  · rw [step_of_env_answer henv]
    exact (hi.withEnv es).engineStep_next hc hf hst d

end Sys2Proof.Machine
end

section
/-! PROOF. The micro-operations that transfer nothing (40_bus_strobe.md R94 to R97, R99, R100): each is one write of the
state, and the completion pulse is over (log entry 17) but for DONE's own. -/

namespace Sys2Proof.Machine

/-- Settles O16: the step performs the micro-operation, whose write is the named register's. -/
theorem registerMicroOperations : Obligations.RegisterMicroOperations := by
  intro s hr henv
  refine ⟨?_, ?_, ?_, ?_, ?_, ?_⟩ <;> exact fun _ hm => step_running hr henv hm

/-- Settles O17: the step performs the micro-operation, acknowledged. -/
theorem busInitAndWaitEmit : Obligations.BusInitAndWaitEmit := by
  intro s hr henv
  exact ⟨step_running hr henv, fun _ => step_running hr henv⟩

/-- Settles O19: the step performs DONE. -/
theorem doneEndsRequest : Obligations.DoneEndsRequest := fun _ _ => step_running

end Sys2Proof.Machine
end

section
/-! PROOF. An accepted request runs to its DONE (00_scope.md R10, 20_memory.md R53, 40_bus_strobe.md R114): the run performs
its micro-program, and the trace grows by the program's events. -/

namespace Sys2Proof.Machine

/-- A micro-operation emits its events, and the program's events go on with the backlight register as it leaves it (R38). -/
theorem busEvents_cons (s : State) (m : MicroOp) (ops : List MicroOp) :
    busEvents s.cfg.addr7 s.bl (m :: ops) =
      s.emitted m ++ busEvents (s.perform .ack m).cfg.addr7 (s.perform .ack m).bl ops := by
  cases m with
  | setReg w => cases w <;> rfl
  | _ => rfl

theorem performAll_tr (s : State) (ops : List MicroOp) :
    (s.performAll ops).tr = s.tr ++ busEvents s.cfg.addr7 s.bl ops := by
  induction ops generalizing s with
  | nil => exact (List.append_nil s.tr).symm
  | cons m ops ih => rw [performAll_cons, ih, perform_tr, busEvents_cons, List.append_assoc]

theorem performAll_host (s : State) (ops : List MicroOp) : (s.performAll ops).host = s.host := by
  induction ops generalizing s with
  | nil => rfl
  | cons m ops ih =>
    obtain ⟨-, -, -, hhost, -⟩ := perform_keeps s .ack m
    exact (ih _).trans hhost

/-- A program's DONE is the last micro-operation performed. -/
theorem performAll_append_done (s : State) (ops : List MicroOp) (r : Byte) :
    s.performAll (ops ++ [.done r]) = (s.performAll ops).finish r :=
  performAll_append s ops [.done r]

/-- What an accepted instruction loads: a body without a DONE, and then the DONE (R100, R101). -/
theorem accepted_load {i : Instr} {s t : State} (hs : s.Ready) (h : exec i s = .next t) (hb : t.busy = true) :
    ∃ ops r, t = s.load (ops ++ [.done r]) ∧ ops.length ≤ 126 ∧ ∀ m ∈ ops, m.isDone = false := by
  obtain ⟨p, rfl⟩ : ∃ p, t = s.load p := by
    rcases exec_next_cases h hs with hload | ⟨w, rfl⟩ | ⟨w, rfl⟩
    · exact hload
    · exact absurd (hs.2.2.symm.trans hb) Bool.false_ne_true
    · exact absurd (hs.2.2.symm.trans hb) Bool.false_ne_true
  rcases accepted_prog hs h hb with ⟨a, b, -, hp⟩ | ⟨-, ops, hbody, hp⟩
  · have hlen := initBody_length s.fn s.oled (cursorCommand s.cfg s.rowoff 0 0)
    have hle : initLength s.oled ≤ 127 := by cases s.oled <;> decide
    exact ⟨_, 0, congrArg s.load (hp.trans (initOps_eq _ _ _)), by omega, initBody_noDone _ _ _⟩
  · exact ⟨ops, _, congrArg s.load hp, hbody.length_le, fun m hm => (hbody.no_done_no_enter m hm).1⟩

/-- An undisturbed engine runs an accepted micro-program as the sequence of its micro-operations, and is idle after it. -/
theorem accepted_run {i : Instr} {s t : State} (hs : s.Ready) (hu : s.Undisturbed) (h : exec i s = .next t)
    (hb : t.busy = true) :
    Host.Core.run Sys2Proof.core t.prog.length t = .next (t.performAll t.prog) ∧
    (t.performAll t.prog).busy = false ∧ (t.performAll t.prog).rspDone = true := by
  obtain ⟨ops, r, rfl, hlen, hdone⟩ := accepted_load hs h hb
  rw [State.load_prog, performAll_append_done, List.length_append, List.length_singleton]
  exact ⟨run_loaded hs hu hlen hdone, rfl, rfl⟩

/-- Settles O43: the state after the run is the micro-program performed. -/
theorem acceptedRequestRunsToDone : Obligations.AcceptedRequestRunsToDone := by
  intro i s t hs hu h hb
  obtain ⟨hrun, hidle, hpulse⟩ := accepted_run hs hu h hb
  have htr := performAll_tr t t.prog
  have hhost := performAll_host t t.prog
  obtain ⟨ops, r, rfl, -, -⟩ := accepted_load hs h hb
  exact ⟨_, hrun, hidle, hpulse, htr, hhost⟩

end Sys2Proof.Machine
end

section
/-! PROOF. The pulse guarantee (40_bus_strobe.md R110, R112, R113): a micro-program raises E only inside a STROBE, so that
each E-high byte is held and settled, and E is low after it when it was before. -/

namespace Sys2Proof.Machine

/-! ## Micro-programs that raise E only in a STROBE -/

/-- A micro-operation that does not raise E. -/
def MicroOp.keepsELow : MicroOp → Bool
  | .xfer v => !pinE v
  | _ => true

/-- A micro-program that raises E only inside a STROBE of a byte that meets R109. -/
inductive Strobed : List MicroOp → Prop where
  | nil : Strobed []
  | low {m : MicroOp} {ops : List MicroOp} (hm : m.keepsELow = true) (h : Strobed ops) : Strobed (m :: ops)
  | strobe {n : Byte} {ops : List MicroOp} (hn : n &&& 0x0E = 0) (h : Strobed ops) : Strobed (strobe n ++ ops)

namespace Strobed

theorem append {p q : List MicroOp} (hp : Strobed p) (hq : Strobed q) : Strobed (p ++ q) := by
  induction hp with
  | nil => exact hq
  | low hm _ ih => exact .low hm ih
  | strobe hn _ ih =>
    rw [List.append_assoc]
    exact .strobe hn ih

theorem of_keepsELow {ops : List MicroOp} (h : ∀ m ∈ ops, m.keepsELow = true) : Strobed ops := by
  induction ops with
  | nil => exact .nil
  | cons m ops ih =>
    obtain ⟨hm, hops⟩ := List.forall_mem_cons.mp h
    exact .low hm (ih hops)

theorem one_strobe {n : Byte} (hn : n &&& 0x0E = 0) : Strobed (Machine.strobe n) := .strobe hn .nil

theorem send (b : Byte) (m : Mode) : Strobed (send b m) := by
  obtain ⟨hhi, hlo⟩ := nibbles_low b m.isData
  rw [send_eq]
  exact (one_strobe hhi).append (one_strobe hlo)

theorem send_done (b : Byte) (m : Mode) (r : Byte) : Strobed (Machine.send b m ++ [.done r]) :=
  (send b m).append (.low rfl .nil)

theorem clearOps (oled : Bool) (c : Byte) : Strobed (clearOps oled c) := by
  refine ((send _ _).append (.low rfl .nil)).append ?_
  cases oled with
  | false => exact .nil
  | true => exact send _ _

theorem homeOps : Strobed homeOps := (send _ _).append (.low rfl .nil)

theorem glyphOps (g : Glyph) : Strobed (glyphOps g) := by
  have rows (is : List Nat) : Strobed (is.flatMap fun i => Machine.send (glyphRow g i) .data) := by
    induction is with
    | nil => exact .nil
    | cons i is ih => exact (send _ _).append ih
  exact rows _

theorem toggleOps (r : MirrorReg) (v : Byte) : Strobed (toggleOps r v) := .low rfl (send_done _ _ _)

theorem handshakeOps : Strobed handshakeOps := by
  have mode : Strobed (Machine.strobe 0x30) := one_strobe rfl
  have lock : Strobed (Machine.strobe 0x20) := one_strobe rfl
  rw [handshakeOps_eq]
  refine ((((append ?busInit ?mode1).append ?mode2).append ?mode3).append ?lock).append ?sync
  case busInit => exact of_keepsELow (by decide)
  case mode1 => exact .low rfl (.low rfl (.low rfl mode))
  case mode2 | mode3 => exact .low rfl (.low rfl mode)
  case lock => exact .low rfl lock
  case sync => exact .low rfl .nil

theorem initBody (fn : Byte) (oled : Bool) (c : Byte) : Strobed (initBody fn oled c) := by
  rw [Machine.initBody]
  refine (((((append handshakeOps ?function).append ?on).append ?cleared).append ?entry).append ?homed).append ?ready
  case function => exact .low rfl (send _ _)
  case on | entry => exact .low rfl (.low rfl (send _ _))
  case cleared => exact .low rfl (clearOps _ _)
  case homed => exact .low rfl homeOps
  case ready => exact .low rfl .nil

end Strobed

theorem accepted_toggle_strobed {r : MirrorReg} {op : ToggleOp} {mask : Byte} {w : ReqWord} {s t : State} (hs : s.Ready)
    (h : acceptToggle r op mask w s = .next t) (hb : t.busy = true) : Strobed t.prog := by
  rw [acceptToggle, whenReady_ready hs] at h
  cases h
  rcases toggle_cases s r op mask w with ⟨-, ht⟩ | ⟨x, -, ht⟩ <;> rw [ht] at hb ⊢
  · exact absurd (hs.2.2.symm.trans hb) Bool.false_ne_true
  · exact .toggleOps _ _

/-- Every accepted micro-program raises E only in a STROBE (R110). -/
theorem accepted_strobed {i : Instr} {s t : State} (hs : s.Ready) (h : exec i s = .next t) (hb : t.busy = true) :
    Strobed t.prog := by
  have done (r : Byte) : Strobed [.done r] := .low rfl .nil
  cases i
  case displayOff | displayOn | cursorOff | cursorOn | blinkOff | blinkOn | leftToRight | rightToLeft | autoscrollOn
    | autoscrollOff => exact accepted_toggle_strobed hs h hb
  case reservedOp27 | reservedOp28To31 | reservedRsv =>
    exact absurd ((acceptReserved_idle hs h).symm.trans hb) Bool.false_ne_true
  all_goals rw [accept_prog hs h]
  case init =>
    rw [initOps_eq]
    exact (Strobed.initBody _ _ _).append (done 0)
  case clear => exact (Strobed.clearOps _ _).append (done 0)
  case home => exact Strobed.homeOps.append (done 0)
  case createChar a b g => exact ((Strobed.send _ _).append (.glyphOps g)).append (done 0)
  case initNibble8Bit | initNibble4Bit => exact .strobe rfl (done 0)
  case backlightOff | backlightOn | setOled | stubContrast | stubBargraph | stubKeypad | stubStatus | stubDelay =>
    exact .of_keepsELow (by simp [MicroOp.keepsELow, pinE])
  all_goals exact .send_done _ _ _

/-! ## The pulses on the bus -/

/-- The backlight bit leaves E as it is (30_encoding.md R67). -/
theorem pinE_or_blBits (v : Byte) (bl : Bool) : pinE (v ||| blBits bl) = pinE v := by
  revert v bl; decide

/-- The byte of a STROBE with E high, with E dropped (R110). -/
theorem strobe_drops_enable {n : Byte} (hn : n &&& 0x0E = 0) (bl : Bool) :
    (n ||| 0x04 ||| blBits bl) &&& 0xFB = n ||| blBits bl := by
  revert n bl; decide

theorem busEvents_strobe_append {n : Byte} (hn : n &&& 0x0E = 0) (addr : BitVec 7) (bl : Bool) (ops : List MicroOp) :
    busEvents addr bl (strobe n ++ ops) = strobeEvents addr bl n ++ busEvents addr bl ops := by
  obtain ⟨hlow, -⟩ := strobe_pins n hn bl
  rw [strobe, hlow]
  rfl

/-- A byte with E low, one with E high, the hold, the same byte with E low and the settle are one pulse of R112. -/
theorem wellPulsed_pulse_append {low high : Byte} (hlow : pinE low = false) (hhigh : pinE high = true)
    (hdrop : high &&& 0xFB#8 = low) (addr : BitVec 7) (es : List BusEvent) :
    wellPulsed ([.xfer addr low, .xfer addr high, .wait 1, .xfer addr low, .wait 42] ++ es) = wellPulsed es := by
  simp [wellPulsed, hlow, hhigh, hdrop]

theorem wellPulsed_strobeEvents_append {n : Byte} (hn : n &&& 0x0E = 0) (addr : BitVec 7) (bl : Bool)
    (es : List BusEvent) : wellPulsed (strobeEvents addr bl n ++ es) = wellPulsed es := by
  obtain ⟨-, hlow, hhigh, -⟩ := strobe_pins n hn bl
  exact wellPulsed_pulse_append hlow hhigh (strobe_drops_enable hn bl) addr es

/-- The pulses of a micro-program are those of its STROBEs. -/
theorem Strobed.wellPulsed {ops : List MicroOp} (h : Strobed ops) (addr : BitVec 7) (bl : Bool) :
    wellPulsed (busEvents addr bl ops) = true := by
  induction h generalizing bl with
  | nil => rfl
  | @low m ops hm _ ih =>
    cases m with
    | xfer v =>
      have hlow : pinE (v ||| blBits bl) = false := by simpa [MicroOp.keepsELow, pinE_or_blBits] using hm
      simpa [busEvents, Machine.wellPulsed, hlow] using ih bl
    | setReg w => cases w <;> exact ih _
    | _ => exact ih bl
  | strobe hn _ ih => rw [busEvents_strobe_append hn, wellPulsed_strobeEvents_append hn, ih]

/-- Settles O44: an accepted micro-program raises E only in a STROBE. -/
theorem everyRequestIsWellPulsed : Obligations.EveryRequestIsWellPulsed :=
  fun _ _ _ hs h hb => (accepted_strobed hs h hb).wellPulsed _ _

/-! ## E between two requests -/

/-- A micro-operation that does not raise E leaves it low in LAST (R98). -/
theorem perform_keepsELow {s : State} {m : MicroOp} (hm : m.keepsELow = true) (hl : pinE s.last = false) :
    pinE (s.perform .ack m).last = false := by
  cases m with
  | xfer v => simpa [State.perform, State.busByte, pinE_or_blBits, MicroOp.keepsELow] using hm
  | setReg w => cases w <;> exact hl
  | _ => exact hl

/-- E is low in LAST after a micro-program that starts with E low: a STROBE ends with its low byte (R113). -/
theorem Strobed.performAll_low {ops : List MicroOp} (h : Strobed ops) {s : State} (hl : pinE s.last = false) :
    pinE (s.performAll ops).last = false := by
  induction h generalizing s with
  | nil => exact hl
  | low hm _ ih => exact ih (perform_keepsELow hm hl)
  | strobe hn _ ih =>
    rw [performAll_append, performAll_strobe _ _ hn]
    exact ih (strobe_pins _ hn s.bl).2.1

/-- Settles O51: the run performs the micro-program, and acceptance leaves LAST as it is. -/
theorem enableLowBetweenRequests : Obligations.EnableLowBetweenRequests := by
  intro i s t u hs hu h hb hlow hrun
  have hstrobed := accepted_strobed hs h hb
  obtain ⟨hrun', -⟩ := accepted_run hs hu h hb
  obtain rfl : t.performAll t.prog = u := Host.Outcome.next.inj (hrun'.symm.trans hrun)
  obtain ⟨ops, r, rfl, -⟩ := accepted_load hs h hb
  rw [← pinE_eq_getLsbD] at hlow ⊢
  exact hstrobed.performAll_low hlow

end Sys2Proof.Machine
end

section
/-! PROOF. The raw byte transfers COMMAND and WRITE (41_byte_transfer.md R118 to R124): one SEND each, alike but for the mode
tag and the response, and what their two nibbles spell. -/

namespace Sys2Proof.Machine

/-! ## The runs -/

/-- The two nibbles of a byte `b` sent with RS = `rs` in `s` (R122). -/
def State.byteLatches (s : State) (b : Byte) (rs : Bool) : List Latch :=
  [⟨b.extractLsb' 4 4, rs, s.sync, s.phase⟩, ⟨b.extractLsb' 0 4, rs, s.sync, s.phase⟩]

/-- All that SEND latches in `s`: before the byte's two nibbles, one more if its first transfer drops E (R61). -/
def State.sendLatches (s : State) (b : Byte) (rs : Bool) : List Latch :=
  s.edge ((nibbleBytes b rs).1 ||| blBits s.bl) ++ s.byteLatches b rs

theorem runsTo_command {s : State} (hr : s.Ready) (hu : s.Undisturbed) (a b : Byte) :
    RunsTo (.command a b) s 11
      (s.answered (sendEvents s.cfg.addr7 s.bl a false) (sendLast s.bl a false) (s.sendLatches a false) 0) :=
  runsTo_send (m := .cmd) hr hu rfl

theorem runsTo_write {s : State} (hr : s.Ready) (hu : s.Undisturbed) (a b : Byte) :
    RunsTo (.write a b) s 11
      (s.answered (sendEvents s.cfg.addr7 s.bl a true) (sendLast s.bl a true) (s.sendLatches a true) 1) :=
  runsTo_send (m := .data) hr hu rfl

/-- Settles O23: COMMAND is one SEND in command mode and DONE(0). -/
theorem commandSendsByte : Obligations.CommandSendsByte :=
  fun _ a b hr hu => ⟨rfl, _, runsTo_command hr hu a b⟩

/-- Settles O24: WRITE is one SEND in data mode and DONE(1). -/
theorem writeSendsByteAnswersOne : Obligations.WriteSendsByteAnswersOne :=
  fun _ a b hr hu => ⟨rfl, _, runsTo_write hr hu a b⟩

/-! ## The mode tag -/

/-- The mode tag is bit 0 of both nibble bytes (R122, R124). -/
theorem nibbleBytes_data (b : Byte) :
    nibbleBytes b true = ((nibbleBytes b false).1 ||| 0x01, (nibbleBytes b false).2 ||| 0x01) := by
  simp [nibbleBytes]

theorem strobeEvents_map_withRs (addr : BitVec 7) (bl : Bool) (n : Byte) :
    (strobeEvents addr bl n).map BusEvent.withRs = strobeEvents addr bl (n ||| 0x01) := by
  have hlow : n ||| blBits bl ||| 0x01 = n ||| 0x01 ||| blBits bl := by ac_rfl
  have hhigh : n ||| 0x04 ||| blBits bl ||| 0x01 = n ||| 0x01 ||| 0x04 ||| blBits bl := by ac_rfl
  simp only [strobeEvents, List.map_cons, List.map_nil, BusEvent.withRs, hlow, hhigh]

theorem sendEvents_map_withRs (addr : BitVec 7) (bl : Bool) (b : Byte) :
    (sendEvents addr bl b false).map BusEvent.withRs = sendEvents addr bl b true := by
  rw [sendEvents, List.map_append, strobeEvents_map_withRs, strobeEvents_map_withRs, sendEvents, nibbleBytes_data]

theorem sendLast_or_rs (bl : Bool) (b : Byte) : sendLast bl b false ||| 0x01 = sendLast bl b true := by
  rw [sendLast, sendLast, nibbleBytes_data]
  ac_rfl

/-- Bit 0 of a byte is RS alone: E and the data lines do not depend on it (30_encoding.md R67). -/
theorem pins_or_rs (p : Byte) :
    pinE (p ||| 0x01) = pinE p ∧ pinData (p ||| 0x01) = pinData p ∧ pinRs (p ||| 0x01) = true := by
  revert p; decide

theorem edge_map_rs (s : State) (p : Byte) :
    (s.edge p).map (fun l => { l with rs := true }) = s.edge (p ||| 0x01) := by
  obtain ⟨he, hdata, hrs⟩ := pins_or_rs p
  rw [State.edge, State.edge, he, hdata, hrs]
  split <;> rfl

theorem sendLatches_map_rs (s : State) (b : Byte) :
    (s.sendLatches b false).map (fun l => { l with rs := true }) = s.sendLatches b true := by
  have hfirst : (nibbleBytes b true).1 ||| blBits s.bl = (nibbleBytes b false).1 ||| blBits s.bl ||| 0x01 := by
    rw [nibbleBytes_data]
    ac_rfl
  rw [State.sendLatches, List.map_append, edge_map_rs, ← hfirst]
  rfl

/-- Settles O25: both ends are known whole, and each part of WRITE's is COMMAND's with RS set. -/
theorem commandAndWriteDifferInRsOnly : Obligations.CommandAndWriteDifferInRsOnly := by
  intro s u v a b hr hu hcommand hwrite
  obtain rfl := runsTo_unique hcommand (runsTo_command hr hu a b)
  obtain rfl := runsTo_unique hwrite (runsTo_write hr hu a b)
  refine ⟨rfl, _, _, rfl, rfl, ?_⟩
  rw [sendEvents_map_withRs, sendLatches_map_rs]
  simp only [State.answered, sendLast_or_rs]

/-! ## The nibbles decoded -/

/-- From E low nothing but the byte's two nibbles is latched (R61, R122). -/
theorem sendLatches_of_low {s : State} (h : pinE s.pins = false) (b : Byte) (rs : Bool) :
    s.sendLatches b rs = s.byteLatches b rs := by
  rw [State.sendLatches, edge_of_low h, List.nil_append]

/-- The nibbles of a byte pair back to it, for each byte and mode (R64, R122). -/
theorem pairNibbles_byteLatches (s : State) (b : Byte) (rs : Bool) :
    pairNibbles ((s.byteLatches b rs).map fun l => (l.nibble, l.rs)) = [(rs, b)] :=
  congrArg (fun c => [(rs, c)]) (nibbles_append b)

/-- In an aligned engine they spell that byte on the bus (R64). -/
theorem decodedStream_byteLatches {s : State} (h : s.sync = true) (b : Byte) (rs : Bool) :
    decodedStream (s.byteLatches b rs) = [(rs, b)] := by
  rw [State.byteLatches, h]
  exact congrArg (fun c => [(rs, c)]) (nibbles_append b)

/-- COMMAND and WRITE from E low: the run, and the two nibbles it latches. -/
theorem rawByte_latches {s : State} (hr : s.Ready) (hu : s.Undisturbed) (hlow : pinE s.pins = false) {a b : Byte}
    {i : Instr} {m : Bool} (hi : (i, m) ∈ [(Instr.command a b, false), (.write a b, true)]) :
    ∃ u, RunsTo i s 11 u ∧ u.latches = s.latches ++ s.byteLatches a m := by
  rw [← sendLatches_of_low hlow]
  simp only [List.mem_cons, List.not_mem_nil, or_false, Prod.mk.injEq] at hi
  obtain ⟨rfl, rfl⟩ | ⟨rfl, rfl⟩ := hi
  · exact ⟨_, runsTo_command hr hu a b, rfl⟩
  · exact ⟨_, runsTo_write hr hu a b, rfl⟩

/-- Settles O26: the two nibbles pair to the byte, and whole pairs before them leave the stream to go on with it. -/
theorem sentByteDecodesBack : Obligations.SentByteDecodesBack := by
  intro s a b hr hu hlow i m hi
  rw [← pinE_eq_getLsbD] at hlow
  obtain ⟨u, hrun, hlatches⟩ := rawByte_latches hr hu hlow hi
  refine ⟨u, s.byteLatches a m, hrun, hlatches, rfl, pairNibbles_byteLatches s a m, fun hsync hpairs => ?_⟩
  rw [hlatches, decodedStream_append hpairs, decodedStream_byteLatches hsync]

end Sys2Proof.Machine
end

section
/-! PROOF. INIT as a request (42_init.md R125, R142, R143): its run, the run of a second INIT, and how many transfers and which
waits its micro-program and that of every other request is made of (70_reset_and_hazards.md R220). -/

namespace Sys2Proof.Machine

/-! ## The run of INIT -/

/-- Settles O38: the run of INIT's sections, one after the other. -/
theorem initRunsHandshake : Obligations.InitRunsHandshake :=
  fun _ a b hr hu hrow => ⟨rfl, _, runsTo_init hr hu hrow a b⟩

/-- INIT writes the registers that INIT before it wrote, and reads none that it wrote: only the trace and the latch record
grow (R143). -/
theorem initialised_initialised (s : State) (ls ls' : List Latch) :
    (s.initialised ls).initialised ls' =
      { s.initialised ls with
        tr := (s.initialised ls).tr ++ initEvents s.cfg.addr7 s.bl s.fn s.oled
        latches := (s.initialised ls).latches ++ ls' } := rfl

/-- Settles O40: INIT's one run ends idle, and from there INIT runs to the same registers. -/
theorem initIsIdempotent : Obligations.InitIsIdempotent := by
  intro s u a b hr hu hrow hrun
  obtain rfl : u = s.initialised (initLatches s) := runsTo_unique hrun (runsTo_init hr hu hrow a b)
  have hidle : (s.initialised (initLatches s)).Ready := ⟨hr.1, hr.2.1, rfl⟩
  refine ⟨_, initLatches (s.initialised (initLatches s)), rfl, ?_⟩
  rw [← initialised_initialised]
  exact runsTo_init hidle hu hrow a b

/-! ## Transfers and waits of a micro-program -/

@[simp] theorem countXfers_append (p q : List MicroOp) : countXfers (p ++ q) = countXfers p + countXfers q := by
  induction p with
  | nil => exact (Nat.zero_add _).symm
  | cons m p ih => cases m <;> simp [countXfers, ih, Nat.add_assoc]

@[simp] theorem waitSum_append (p q : List MicroOp) : waitSum (p ++ q) = waitSum p + waitSum q := by
  induction p with
  | nil => exact (Nat.zero_add _).symm
  | cons m p ih => cases m <;> simp [waitSum, ih, Nat.add_assoc]

/-- SEND makes six transfers, whatever its byte (40_bus_strobe.md R111). -/
@[simp] theorem countXfers_send (b : Byte) (m : Mode) : countXfers (send b m) = 6 := rfl

/-- SEND waits twice for the hold and the settle (R111). -/
@[simp] theorem waitSum_send (b : Byte) (m : Mode) : waitSum (send b m) = 86 := rfl

theorem countXfers_flatMap_send {α : Type} (is : List α) (f : α → Byte) (m : Mode) :
    countXfers (is.flatMap fun i => send (f i) m) = 6 * is.length := by
  induction is with
  | nil => rfl
  | cons i is ih => rw [List.flatMap_cons, countXfers_append, ih, countXfers_send, List.length_cons, Nat.mul_succ, Nat.add_comm]

theorem waitSum_flatMap_send {α : Type} (is : List α) (f : α → Byte) (m : Mode) :
    waitSum (is.flatMap fun i => send (f i) m) = 86 * is.length := by
  induction is with
  | nil => rfl
  | cons i is ih => rw [List.flatMap_cons, waitSum_append, ih, waitSum_send, List.length_cons, Nat.mul_succ, Nat.add_comm]

/-- The eight rows of a glyph, one SEND each (44_addressing.md R167). -/
@[simp] theorem countXfers_glyphOps (g : Glyph) : countXfers (glyphOps g) = 48 := countXfers_flatMap_send _ _ _

@[simp] theorem waitSum_glyphOps (g : Glyph) : waitSum (glyphOps g) = 688 := waitSum_flatMap_send _ _ _

/-- The reset byte and four strobes (42_init.md R129 to R134). -/
@[simp] theorem countXfers_handshakeOps : countXfers handshakeOps = 13 := rfl

@[simp] theorem waitSum_handshakeOps : waitSum handshakeOps = 554482 := by decide

@[simp] theorem countXfers_homeOps : countXfers homeOps = 6 := rfl

@[simp] theorem waitSum_homeOps : waitSum homeOps = 2086 := by decide

/-- One SEND, and a second one for an OLED variant (R161). -/
@[simp] theorem countXfers_clearOps (oled : Bool) (c : Byte) :
    countXfers (clearOps oled c) = if oled then 12 else 6 := by
  cases oled <;> rfl

@[simp] theorem waitSum_clearOps (oled : Bool) (c : Byte) :
    waitSum (clearOps oled c) = if oled then 2172 else 2086 := by
  cases oled <;> simp [clearOps, waitSum, tClear]

/-- The handshake's and those of the five bytes after it, CLEAR's and HOME's among them (42_init.md R142). -/
theorem countXfers_initOps (fn : Byte) (oled : Bool) (c : Byte) :
    countXfers (initOps fn oled c) = if oled then 49 else 43 := by
  cases oled <;> simp [initOps, setupOps, countXfers]

theorem waitSum_initOps (fn : Byte) (oled : Bool) (c : Byte) :
    waitSum (initOps fn oled c) = if oled then 558998 else 558912 := by
  cases oled <;> simp [initOps, setupOps, waitSum]

/-! ## What a request costs -/

/-- `i` is accepted in `s`, and its micro-program makes `n` transfers and waits at least `w` microseconds. -/
def State.AcceptsAtCost (s : State) (i : Instr) (n : Nat) (w : Micros) : Prop :=
  ∃ p, exec i s = .next (s.load p) ∧ countXfers p = n ∧ waitSum p = w

section

variable {s : State} {i : Instr}

theorem acceptsAtCost_accept {p : List MicroOp} {n w : Nat} (hs : s.Ready) (h : exec i s = accept p s)
    (hn : countXfers p = n) (hw : waitSum p = w) : s.AcceptsAtCost i n w :=
  ⟨p, by rw [h, accept, whenReady_ready hs], hn, hw⟩

/-- A request of one byte. -/
theorem acceptsAtCost_send {b r : Byte} {m : Mode} (hs : s.Ready) (h : exec i s = accept (send b m ++ [.done r]) s) :
    s.AcceptsAtCost i 6 86 :=
  acceptsAtCost_accept hs h rfl rfl

/-- A toggle whose mirror holds a value sends one byte (43_mirror_toggles.md R144). -/
theorem acceptsAtCost_toggle {r : MirrorReg} (hs : s.Ready) (hi : toggleRegister i = some r) (hr : s.mirror r ≠ .unset) :
    s.AcceptsAtCost i 6 86 := by
  obtain ⟨op, mask, w, -, hexec⟩ := exec_toggle hi
  rcases toggle_cases s r op mask w with ⟨hunset, -⟩ | ⟨x, -, hload⟩
  · exact absurd hunset hr
  · exact ⟨_, by rw [hexec, acceptToggle, whenReady_ready hs, hload], rfl, rfl⟩

end

/-- Settles O50: the costs of INIT, of one byte, of CLEAR, HOME and CREATE_CHAR, and of what sends no byte; only a toggle
reads a mirror. -/
theorem transfersAndWaitSums : Obligations.TransfersAndWaitSums := by
  intro s a b g hs i n w hrow hset
  show s.AcceptsAtCost i n w
  cases i
  all_goals
    simp only [List.mem_cons, List.not_mem_nil, Prod.mk.injEq, reduceCtorEq, false_and, false_or, or_false] at hrow
  all_goals obtain ⟨-, rfl, rfl⟩ := hrow
  case init => exact acceptsAtCost_accept hs rfl (countXfers_initOps ..) (waitSum_initOps ..)
  case command | write | setCursor | scrollLeft | scrollRight => exact acceptsAtCost_send hs rfl
  case displayOff | displayOn | cursorOff | cursorOn | blinkOff | blinkOn | leftToRight | rightToLeft | autoscrollOn
    | autoscrollOff => exact acceptsAtCost_toggle hs rfl (hset _ rfl)
  case clear | home | createChar =>
    exact acceptsAtCost_accept hs rfl (by simp [countXfers]) (by simp [waitSum])
  case backlightOff | backlightOn | setOled | stubContrast | stubBargraph | stubKeypad | stubStatus | stubDelay =>
    exact acceptsAtCost_accept hs rfl rfl rfl

end Sys2Proof.Machine
end

section
/-! PROOF. The mirror toggles (43_mirror_toggles.md R144 to R155): a micro-program that first writes a register and then sends
the byte made of its new value, or the fault of a mirror that is UNSET (60_exceptions.md R182). -/

namespace Sys2Proof.Machine

/-! ## A micro-program whose first micro-operation is SETREG -/

/-- SETREG in a program just loaded: the register written before the load, and the program one micro-operation on (R95). -/
theorem load_perform_setReg (s : State) (p : List MicroOp) (w : RegWrite) :
    (s.load p).perform .ack (.setReg w) = ((s.setReg w).load p).moved [] s.last s.pins [] 1 := by
  cases w <;> simp [State.perform, State.moved, State.setReg, State.load, State.clearPulse, State.advance]

/-- An instruction that writes a register and then performs `ops` runs as `ops` do from the state so written. -/
theorem runsTo_setReg {i : Instr} {s : State} {w : RegWrite} {ops : List MicroOp} {r : Byte} (hr : s.Ready)
    (hu : s.Undisturbed) (hexec : exec i s = accept (.setReg w :: ops ++ [.done r]) s) (hlen : ops.length ≤ 125)
    (hdone : ∀ m ∈ ops, m.isDone = false) :
    RunsTo i s (ops.length + 2)
      (((((s.setReg w).load (.setReg w :: ops ++ [.done r])).moved [] s.last s.pins [] 1).performAll ops).finish r) := by
  have h := runsTo_accept hr hu hexec (Nat.succ_le_succ hlen) (List.forall_mem_cons.mpr ⟨rfl, hdone⟩)
  rw [performAll_cons, load_perform_setReg] at h
  exact h

/-! ## The two outcomes of a toggle -/

/-- A toggle whose mirror holds a value accepts its micro-program for the new value (R144). -/
theorem acceptToggle_value {s : State} {r : MirrorReg} {x : Byte} (hx : s.mirror r = .value x) (op : ToggleOp)
    (mask : Byte) (word : ReqWord) :
    acceptToggle r op mask word s = accept (toggleOps r (toggled op mask x)) s := by
  simp only [acceptToggle, accept, whenReady, toggle_value hx]

/-- The run of a toggle's micro-program for the new value `v` of `r` (R144). -/
theorem runsTo_toggleOps {i : Instr} {s : State} {r : MirrorReg} {v : Byte} (hr : s.Ready) (hu : s.Undisturbed)
    (hexec : exec i s = accept (toggleOps r v) s) :
    RunsTo i s 12
      ((s.setReg (r.write v)).answered (sendEvents s.cfg.addr7 s.bl (r.base ||| v) false)
        (sendLast s.bl (r.base ||| v) false) (s.sendLatches (r.base ||| v) false) 0) := by
  have h := runsTo_setReg (ops := send (r.base ||| v) .cmd) hr hu hexec (by simp) (send_noDone _ _)
  rw [performAll_send, moved_moved, load_moved_finish] at h
  cases r <;> exact h

/-- `i` is a toggle of mirror `r` with request word `word`: a mirror value `x` becomes `f x` and is sent with the register's
command base, and a mirror that is UNSET is the fault that records the word (R144, R182). -/
def State.TogglesMirror (s : State) (r : MirrorReg) (i : Instr) (word : ReqWord) (f : Byte → Byte) : Prop :=
  encode i = .req word 0 ∧
  (∀ x, s.mirror r = .value x → ∃ ls, RunsTo i s 12
    ((s.setReg (r.write (f x))).answered (sendEvents s.cfg.addr7 s.bl (r.base ||| f x) false)
      (sendLast s.bl (r.base ||| f x) false) ls 0)) ∧
  (s.mirror r = .unset → exec i s = .next (s.raiseFault .mirrorUnset word))

theorem togglesMirror_of_exec {i : Instr} {s : State} {r : MirrorReg} {op : ToggleOp} {mask : Byte} {word : ReqWord}
    {f : Byte → Byte} (hr : s.Ready) (hu : s.Undisturbed) (hencode : encode i = .req word 0)
    (hexec : exec i s = acceptToggle r op mask word s) (hf : toggled op mask = f) : s.TogglesMirror r i word f := by
  subst hf
  refine ⟨hencode, fun x hx => ?_, fun hx => ?_⟩
  · exact ⟨_, runsTo_toggleOps hr hu (hexec.trans (acceptToggle_value hx op mask word))⟩
  · rw [hexec, acceptToggle, whenReady_ready hr, toggle_unset hx]

/-- Settles O27: each of the six is a toggle of CTL by its mask. -/
theorem displayTogglesRewriteCtl : Obligations.DisplayTogglesRewriteCtl := by
  intro s a b hr hu i op f hrow
  show s.TogglesMirror .ctl i (reqWord op 0 a b) f
  simp only [List.mem_cons, List.not_mem_nil, Prod.mk.injEq, or_false] at hrow
  obtain ⟨rfl, rfl, rfl⟩ | ⟨rfl, rfl, rfl⟩ | ⟨rfl, rfl, rfl⟩ | ⟨rfl, rfl, rfl⟩ | ⟨rfl, rfl, rfl⟩ | ⟨rfl, rfl, rfl⟩ := hrow
  all_goals exact togglesMirror_of_exec hr hu rfl rfl rfl

/-- Settles O28: each of the four is a toggle of EMS by its mask. -/
theorem entryTogglesRewriteEms : Obligations.EntryTogglesRewriteEms := by
  intro s a b hr hu i op f hrow
  show s.TogglesMirror .ems i (reqWord op 0 a b) f
  simp only [List.mem_cons, List.not_mem_nil, Prod.mk.injEq, or_false] at hrow
  obtain ⟨rfl, rfl, rfl⟩ | ⟨rfl, rfl, rfl⟩ | ⟨rfl, rfl, rfl⟩ | ⟨rfl, rfl, rfl⟩ := hrow
  all_goals exact togglesMirror_of_exec hr hu rfl rfl rfl

end Sys2Proof.Machine
end

section
/-! PROOF. Scroll and backlight (43_mirror_toggles.md R156 to R159): one SEND without a mirror, and one raw transfer under the
backlight bit just written. -/

namespace Sys2Proof.Machine

/-- Settles O29: each scroll is one SEND in command mode and DONE(0), whatever the mirror holds. -/
theorem scrollsAreStateless : Obligations.ScrollsAreStateless :=
  fun _ _ _ hr hu =>
    ⟨rfl, rfl, ⟨_, runsTo_send (m := .cmd) (r := 0) hr hu rfl⟩, ⟨_, runsTo_send (m := .cmd) (r := 0) hr hu rfl⟩⟩

/-- The forced transfer of a backlight request is the new backlight bit alone (R158, R159). -/
theorem runsTo_backlight {i : Instr} {s : State} {v : Bool} (hr : s.Ready) (hu : s.Undisturbed)
    (hexec : exec i s = accept [.setReg (.bl v), .xfer 0x00, .done 0] s) :
    RunsTo i s 3
      { s.answered [.xfer s.cfg.addr7 (blBits v)] (blBits v) (s.edge (blBits v)) 0 with bl := v } := by
  have hbyte : (0x00 : Byte) ||| blBits v = blBits v := BitVec.zero_or
  have h := runsTo_setReg (ops := [.xfer 0x00]) hr hu hexec (by decide) (by simp [MicroOp.isDone])
  rw [performAll_cons, performAll_nil, perform_xfer, moved_moved, load_moved_finish] at h
  rw [← hbyte]
  exact h

/-- Settles O30: with E low before, the one transfer drops no E. -/
theorem backlightForcesOneTransfer : Obligations.BacklightForcesOneTransfer := by
  intro s a b hr hu i op v x hrow
  have hlatch : s.pins.getLsbD 2 = false → s.edge (blBits v) = [] := fun hlow =>
    edge_of_low ((pinE_eq_getLsbD _).trans hlow) _
  simp only [List.mem_cons, List.not_mem_nil, Prod.mk.injEq, or_false] at hrow
  obtain ⟨rfl, rfl, rfl, rfl⟩ | ⟨rfl, rfl, rfl, rfl⟩ := hrow
  all_goals exact ⟨rfl, _, runsTo_backlight hr hu rfl, hlatch⟩

end Sys2Proof.Machine
end

section
/-! PROOF. The addresses (44_addressing.md R163 to R166): the bytes of SET_CURSOR and CREATE_CHAR as numbers, in
every legal configuration. -/

namespace Sys2Proof.Machine

theorem configLegal_iff {c : Config} : configLegal c = true ↔ 1 ≤ c.rows.toNat ∧ c.rows.toNat ≤ 4 := by
  simp [configLegal, BitVec.le_def]

/-- The last row that SET_CURSOR keeps (R163). -/
theorem lastRow_toNat {c : Config} (h : configLegal c = true) :
    (rowsEff c - 1).toNat = min c.rows.toNat 4 - 1 := by
  obtain ⟨hpos, -⟩ := configLegal_iff.mp h
  have heff := rowsEff_toNat c
  have hone : (1 : Byte) ≤ rowsEff c := BitVec.le_def.mpr (by rw [heff]; exact le_min hpos (by decide))
  rw [BitVec.toNat_sub_of_le hone, heff]
  rfl

/-- The clamp is a minimum (R163). -/
theorem clampRow_toNat {c : Config} (h : configLegal c = true) (row : Byte) :
    (clampRow c row).toNat = min row.toNat (min c.rows.toNat 4 - 1) := by
  rw [← lastRow_toNat h, clampRow]
  split
  case isTrue hlt => exact (min_eq_right (BitVec.lt_def.mp hlt).le).symm
  case isFalse hle => exact (min_eq_left (BitVec.le_def.mp (BitVec.not_lt.mp hle))).symm

/-- The base of a row, up to the 128 addresses of the display memory (R8). -/
theorem rowOffsets_entry_mod (c : Config) {r : Byte} (h : r.toNat < 4) :
    ((rowOffsets c).entry r).toNat % 128 =
      [0x00, 0x40, c.cols.toNat, 0x40 + c.cols.toNat].getD r.toNat 0 % 128 := by
  rw [rowOffsets_eq, RowOffsets.entry]
  generalize r.toNat = n at h
  match n, h with
  | 0, _ => rfl
  | 1, _ => rfl
  | 2, _ => rfl
  | 3, _ => simp [BitVec.toNat_add]

/-- The command byte of a display address: bit 7 over the address modulo 128 (R84). -/
theorem setDdramAddr_toNat (x : Byte) : (cmdSetDdramAddr ||| (x &&& 0x7F)).toNat = 0x80 + x.toNat % 128 := by
  revert x; decide

theorem cursorCommand_toNat {c : Config} (h : configLegal c = true) (col row : Byte) :
    (cursorCommand c (rowOffsets c) col row).toNat = cursorByte c col row := by
  have hclamp := clampRow_toNat h row
  have hbase := rowOffsets_entry_mod c (r := clampRow c row) (by omega)
  rw [hclamp] at hbase
  rw [cursorCommand, setDdramAddr_toNat, BitVec.toNat_add, cursorByte]
  omega

/-- A row at or past the configured rows has the address of the last row (R163, R165). -/
theorem cursorCommand_row_past {c : Config} (h : configLegal c = true) (t : RowOffsets) (col : Byte) {row : Byte}
    (hrow : c.rows.toNat ≤ row.toNat) : cursorCommand c t col row = cursorCommand c t col (c.rows - 1) := by
  obtain ⟨hpos, hle⟩ := configLegal_iff.mp h
  have hlast : (c.rows - 1).toNat = c.rows.toNat - 1 := BitVec.toNat_sub_of_le (BitVec.le_def.mpr hpos)
  have hclamp : clampRow c row = clampRow c (c.rows - 1) := by
    apply BitVec.eq_of_toNat_eq
    rw [clampRow_toNat h, clampRow_toNat h, hlast]
    omega
  rw [cursorCommand, cursorCommand, hclamp]

/-- A column acts modulo 128 (R163). -/
theorem cursorCommand_col_wraps (c : Config) (t : RowOffsets) (col row : Byte) :
    cursorCommand c t (col + 0x80) row = cursorCommand c t col row := by
  have hwrap : ∀ x : Byte, (x + 0x80) &&& 0x7F = x &&& 0x7F := by decide
  rw [cursorCommand, cursorCommand, ← BitVec.add_assoc, hwrap]

/-- The byte of a slot: the slot modulo 8, eight addresses apart (R166). -/
theorem cgramCommand_toNat (slot : Byte) : (cgramCommand slot).toNat = 0x40 + slot.toNat % 8 * 8 := by
  revert slot; decide

end Sys2Proof.Machine
end

section
/-! PROOF. The requests of 44_addressing.md: CLEAR, HOME, SET_CURSOR, CREATE_CHAR and SET_OLED, run to their DONE. -/

namespace Sys2Proof.Machine

/-! ## Micro-programs that only send bytes and wait -/

/-- In every state with address `addr` and backlight `bl`, the micro-operations `ops` emit `es`, and their last transfer
is `last`; besides these they only latch and move UPC. -/
def Emits (ops : List MicroOp) (addr : BitVec 7) (bl : Bool) (es : List BusEvent) (last : Byte) : Prop :=
  ∀ s : State, s.cfg.addr7 = addr → s.bl = bl → ∃ ls k, s.performAll ops = s.moved es last last ls k

section

variable {p q : List MicroOp} {addr : BitVec 7} {bl : Bool} {es es' : List BusEvent} {last last' : Byte}

theorem emits_send (addr : BitVec 7) (bl : Bool) (b : Byte) (m : Mode) :
    Emits (send b m) addr bl (sendEvents addr bl b m.isData) (sendLast bl b m.isData) := by
  rintro s rfl rfl
  exact ⟨_, _, performAll_send s b m⟩

theorem Emits.append (hp : Emits p addr bl es last) (hq : Emits q addr bl es' last') :
    Emits (p ++ q) addr bl (es ++ es') last' := by
  intro s haddr hbl
  obtain ⟨ls, k, hfirst⟩ := hp s haddr hbl
  obtain ⟨ls', k', hsecond⟩ := hq (s.moved es last last ls k) haddr hbl
  exact ⟨_, _, by rw [performAll_append, hfirst, hsecond, moved_moved]⟩

theorem Emits.wait (hp : Emits p addr bl es last) (t : Micros) :
    Emits (p ++ [.wait t]) addr bl (es ++ [.wait t]) last := by
  intro s haddr hbl
  obtain ⟨ls, k, hfirst⟩ := hp s haddr hbl
  rw [performAll_append, hfirst, performAll_cons, performAll_nil, perform_wait]
  exact ⟨_, _, moved_moved ..⟩

/-- A request whose micro-program is such and a DONE, run to its end. -/
theorem Emits.runsTo {i : Instr} {s : State} {r : Byte} (hp : Emits p s.cfg.addr7 s.bl es last) (hr : s.Ready)
    (hu : s.Undisturbed) (hexec : exec i s = accept (p ++ [.done r]) s) (hbus : ∀ m ∈ p, m.onBus = true)
    (hlen : p.length ≤ 126) : ∃ ls, RunsTo i s (p.length + 1) (s.answered es last ls r) := by
  have hrun := runsTo_accept hr hu hexec hlen fun m hm => (onBus_writes_nothing (hbus m hm)).1
  obtain ⟨ls, k, hall⟩ := hp (s.load (p ++ [.done r])) rfl rfl
  rw [hall, load_moved_finish] at hrun
  exact ⟨ls, hrun⟩

end

/-! ## CLEAR and HOME -/

theorem exec_clear {s : State} (h : s.rowoff = rowOffsets s.cfg) (a b : Byte) :
    exec (.clear a b) s = accept (clearOps s.oled 0x80 ++ [.done 0]) s := by
  rw [← cursorCommand_origin s.cfg, ← h]
  rfl

/-- Settles O31: the wait follows the command, and with OLED = 1 the cursor command of (0,0) follows the wait. -/
theorem clearWaitsThenRepositionsOled : Obligations.ClearWaitsThenRepositionsOled := by
  intro s a b hr hu hrow
  have hclear := (emits_send s.cfg.addr7 s.bl cmdClearDisplay .cmd).wait tClear
  have hexec := exec_clear hrow a b
  refine ⟨rfl, fun holed => ?_, fun holed => ?_⟩ <;> rw [holed] at hexec
  · exact hclear.runsTo hr hu hexec (clearOps_onBus false 0x80) (by decide)
  · exact (hclear.append (emits_send _ _ 0x80 .cmd)).runsTo hr hu hexec (clearOps_onBus true 0x80) (by decide)

/-- Settles O32: the command and the wait, with no look at OLED. -/
theorem homeWaits : Obligations.HomeWaits :=
  fun s _ _ hr hu =>
    have hhome := (emits_send s.cfg.addr7 s.bl cmdReturnHome .cmd).wait tHome
    ⟨rfl, hhome.runsTo hr hu rfl homeOps_onBus (by decide)⟩

/-! ## SET_CURSOR -/

/-- Settles O33: the byte sent is the one of that number. -/
theorem setCursorSendsClampedAddress : Obligations.SetCursorSendsClampedAddress := by
  intro s col row c hr hu hrow hc
  obtain rfl : cursorCommand s.cfg s.rowoff col row = c := by
    apply BitVec.eq_of_toNat_eq
    rw [hrow, cursorCommand_toNat hr.1, hc]
  exact ⟨rfl, _, runsTo_send (m := .cmd) hr hu rfl⟩

/-- Settles O34: SET_CURSOR reads its operands only through the byte it sends. -/
theorem cursorClampsRowWrapsColumn : Obligations.CursorClampsRowWrapsColumn := by
  intro s col row hr
  have hexec (col row : Byte) : exec (.setCursor col row) s =
      accept (send (cursorCommand s.cfg s.rowoff col row) .cmd ++ [.done 0]) s := rfl
  refine ⟨fun hrow => ?_, ?_⟩
  · rw [hexec, hexec, cursorCommand_row_past hr.1 _ _ hrow]
  · rw [hexec, hexec, cursorCommand_col_wraps]

/-! ## CREATE_CHAR -/

/-- Bytes sent one after the other, the last of them byte `n`. -/
theorem emits_send_range (addr : BitVec 7) (bl : Bool) (f : Nat → Byte) (m : Mode) (n : Nat) :
    Emits ((List.range (n + 1)).flatMap fun i => send (f i) m) addr bl
      ((List.range (n + 1)).flatMap fun i => sendEvents addr bl (f i) m.isData) (sendLast bl (f n) m.isData) := by
  induction n with
  | zero => exact emits_send addr bl (f 0) m
  | succ n ih =>
    rw [List.range_succ, List.flatMap_append, List.flatMap_append, List.flatMap_singleton, List.flatMap_singleton]
    exact ih.append (emits_send _ _ _ _)

/-- Settles O35: the slot byte, then each row of the glyph. -/
theorem createCharSendsSlotAndRows : Obligations.CreateCharSendsSlotAndRows := by
  intro s a b c g hr hu hc
  obtain rfl : cgramCommand a = c := BitVec.eq_of_toNat_eq ((cgramCommand_toNat a).trans hc.symm)
  have hsends := (emits_send s.cfg.addr7 s.bl (cgramCommand a) .cmd).append
    (emits_send_range s.cfg.addr7 s.bl (glyphRow g) .data 7)
  have hbus := List.forall_mem_append.mpr ⟨send_onBus (cgramCommand a) .cmd, glyphOps_onBus g⟩
  exact ⟨rfl, hsends.runsTo hr hu rfl hbus (by simp)⟩

/-! ## SET_OLED -/

/-- Settles O36: the SETREG and the DONE, with nothing on the bus. -/
theorem setOledWritesFlag : Obligations.SetOledWritesFlag := by
  intro s a b hr hu
  refine ⟨rfl, ?_⟩
  have hrun := runsTo_setReg (i := .setOled a b) (ops := []) hr hu rfl (by simp) (by simp)
  simpa [State.moved, State.setReg, State.load, State.finish, oledFlag] using hrun

end Sys2Proof.Machine
end

section
/-! PROOF. The stub requests of 45_stubs_aliases.md, which are one DONE each. -/

namespace Sys2Proof.Machine

/-- A request whose whole micro-program is a DONE writes RSP and ends there (R171). -/
theorem runsTo_done {i : Instr} {s : State} {r : Byte} (hr : s.Ready) (hu : s.Undisturbed)
    (hexec : exec i s = accept [.done r] s) :
    RunsTo i s 1 { s with rsp := r, rspDone := true, busy := false, prog := [], upc := 0 } :=
  runsTo_accept (ops := []) hr hu hexec (Nat.zero_le _) (List.forall_mem_nil _)

/-- Settles O37: each of the five stubs is the DONE of 0 alone. -/
theorem stubsOnlyAnswerZero : Obligations.StubsOnlyAnswerZero := by
  intro s a b i op hr hu hrow
  simp only [List.mem_cons, List.not_mem_nil, Prod.mk.injEq, or_false] at hrow
  obtain ⟨rfl, rfl⟩ | ⟨rfl, rfl⟩ | ⟨rfl, rfl⟩ | ⟨rfl, rfl⟩ | ⟨rfl, rfl⟩ := hrow
  all_goals exact ⟨rfl, runsTo_done hr hu rfl⟩

end Sys2Proof.Machine
end

section
/-! PROOF. When the engine accepts nothing and when it takes no step of its own (60_exceptions.md R181, R185, R186): an
engine whose configuration was refused, a faulted one, and a busy one. -/

namespace Sys2Proof.Machine

/-! ## The refused engine -/

theorem configLegal_eq_false_iff {c : Config} : configLegal c = false ↔ c.rows.toNat = 0 ∨ 4 < c.rows.toNat := by
  rw [Bool.eq_false_iff, ne_eq, configLegal_iff]
  omega

theorem exec_of_illegal {s : State} (hc : configLegal s.cfg = false) (i : Instr) : exec i s = .refused .badConfig := by
  obtain ⟨k, hk, -⟩ := exec_cases i s
  rw [hk, whenReady, if_pos hc]

theorem engineStep_of_illegal {s : State} (hc : configLegal s.cfg = false) (d : Draw) :
    engineStep d s = .refused .badConfig := by
  rw [engineStep, if_pos hc]

theorem powerOn_of_illegal {c : Config} (hc : configLegal c = false) :
    (State.powerOn c).refused = true ∧ (State.powerOn c).refusals = [⟨.badConfig, none⟩] := by
  simp [State.powerOn, hc]

theorem powerOn_of_legal {c : Config} (hc : configLegal c = true) :
    (State.powerOn c).refused = false ∧ (State.powerOn c).refusals = [] := by
  simp [State.powerOn, hc]

/-- Settles O9: ROWS outside 1..4 is what the construction, an acceptance and a step each look at first. -/
theorem illegalRowsRefused : Obligations.IllegalRowsRefused := by
  refine ⟨fun c hrows => ?_, fun c hpos hle => powerOn_of_legal (configLegal_iff.mpr ⟨hpos, hle⟩)⟩
  have hc := configLegal_eq_false_iff.mpr hrows
  obtain ⟨hrefused, hrefusals⟩ := powerOn_of_illegal hc
  refine ⟨hrefused, hrefusals, ?_, ?_⟩
  · rintro i s rfl
    exact exec_of_illegal hc i
  · rintro s rfl henv
    exact (step_of_env_nil henv).trans (engineStep_of_illegal hc .ack)

/-! ## The faulted engine -/

theorem exec_of_faulted {s : State} (hc : configLegal s.cfg = true) (hf : s.faulted = true) (i : Instr) :
    exec i s = .fault .engineFaulted := by
  obtain ⟨k, hk, -⟩ := exec_cases i s
  simp [hk, whenReady, hc, hf]

theorem engineStep_of_faulted {s : State} (hc : configLegal s.cfg = true) (hf : s.faulted = true) (d : Draw) :
    engineStep d s = .fault .engineFaulted := by
  simp [engineStep, hc, hf]

/-- Settles O8: with an answer of the environment or with none, the step is the faulted engine's. -/
theorem faultedEngineStops : Obligations.FaultedEngineStops := by
  intro s hc hf
  refine ⟨exec_of_faulted hc hf, fun henv => ?_, fun d es henv => ?_⟩
  · exact (step_of_env_nil henv).trans (engineStep_of_faulted hc hf .ack)
  · exact (step_of_env_answer henv).trans (engineStep_of_faulted (s := { s with env := es }) hc hf d)

/-! ## The busy engine -/

/-- The host is held: its request changes nothing (log entry 6). -/
theorem exec_of_busy {s : State} (hc : configLegal s.cfg = true) (hf : s.faulted = false) (hb : s.busy = true)
    (i : Instr) : exec i s = .next s := by
  obtain ⟨k, hk, -⟩ := exec_cases i s
  simp [hk, whenReady, hc, hf, hb]

/-- A busy engine's step ends with whatever queue it began with: it carries the queue along unread. -/
theorem step_host_of_busy {s t : State} (hb : s.busy = true) (h : step s = .next t) : t.host = s.host := by
  have hstep : step s = mapNext (·.withHost s.host) (step s) := step_withHost hb s.host
  rw [h] at hstep
  have hhost : t.host = (t.withHost s.host).host := congrArg State.host (Host.Outcome.next.inj hstep)
  exact hhost

/-- Settles O5: neither an acceptance nor a step of a busy engine takes the request. -/
theorem busyHoldsHost : Obligations.BusyHoldsHost :=
  ⟨fun i _ hc hf hb => exec_of_busy hc hf hb i, fun _ _ => step_host_of_busy⟩

end Sys2Proof.Machine
end

section
/-! PROOF. What the environment does beside answering: a missing acknowledge (20_memory.md R41, 60_exceptions.md R188) is to
the engine an acknowledge, and a controller reset (60_exceptions.md R189) touches no engine register. -/

namespace Sys2Proof.Machine

/-! ## The acknowledge -/

/-- Only a transfer drives the pins, and the answer shows in nothing else it writes (R41). -/
theorem perform_nak_erasePins (s : State) (m : MicroOp) : (s.perform .nak m).erasePins = (s.perform .ack m).erasePins := by
  cases m <;> rfl

theorem performNext_nak_erasePins (s : State) :
    mapNext State.erasePins (performNext .nak s) = mapNext State.erasePins (performNext .ack s) := by
  rw [performNext, performNext]
  cases s.prog[s.upc.toNat]? with
  | none => rfl
  | some m => exact congrArg Host.Outcome.next (perform_nak_erasePins s m)

/-- The answer reaches nothing of the engine's step but the micro-operation it performs. -/
theorem engineStep_nak_erasePins (s : State) :
    mapNext State.erasePins (engineStep .nak s) = mapNext State.erasePins (engineStep .ack s) := by
  rw [engineStep, engineStep]
  split
  · rfl
  · split
    · rfl
    · rcases s.stuck with - | - | -
      · cases s.busy with
        | true => exact performNext_nak_erasePins s
        | false => rfl
      · rfl
      · rfl

/-- Settles O21: both steps are the engine's, from the state with the answer taken off the environment's list. -/
theorem acknowledgeIgnored : Obligations.AcknowledgeIgnored := by
  intro s es
  rw [step_of_env_answer (d := .nak) rfl, step_of_env_answer (d := .ack) rfl]
  exact engineStep_nak_erasePins { s with env := es }

/-! ## The controller reset -/

theorem step_of_env_ctrlReset {s : State} {es : List EnvEvent} (h : s.env = .ctrlReset :: es) :
    step s = .next { s with env := es }.ctrlReset := by
  rw [step, machineStep, h]

/-- Settles O15: the reset is the whole step, and SYNC is all it writes. -/
theorem controllerResetClearsSyncOnly : Obligations.ControllerResetClearsSyncOnly :=
  fun _ _ => step_of_env_ctrlReset

end Sys2Proof.Machine
end
